-- ==== Sys2Proof/Word.lean ====
section
/-! DEFINITION. The word of the host port, the numbers the EF1024 names things by, and the colour value. -/

namespace Sys2Proof

/-- A word of the host port: 32 bits, bit 0 the least significant (R154, R155). -/
abbrev Word := BitVec 32

/-- A host port word address, HA[7:0] (R153, R154). -/
abbrev HostAddr := BitVec 8

/-- A client, 0 to 7; client n works through window Wn. -/
abbrev ClientNo := Fin 8

/-- A bus master number, HM[2:0], 0 to 7. -/
abbrev MasterNo := Fin 8

/-- A map, 0 to 3 (R1). -/
abbrev MapNo := Fin 4

/-- A cell's position within its map, 0 to 255 (R1). -/
abbrev Index := Fin 256

/-- A global cell number, 0 to 1023 (R1). -/
abbrev CellNo := Fin 1024

/-- A slot of the HOLDINGS TABLE, 0 to 511 (R57). -/
abbrev SlotNo := Fin 512

/-- A register window by the value of HA[7:4]: 0 to 7 are W0 to W7 and 8 is WS (R154). -/
abbrev WindowNo := Fin 9

/-- A word offset within a window, HA[3:0] (R154). -/
abbrev Offset := Fin 16

/-- The window of a client (R112: one window for each client). -/
abbrev ClientNo.window (c : ClientNo) : WindowNo := c.castSucc

/-- The value of HA[7:4], which names a register window or none (R154). -/
abbrev WindowField := Fin 16

/-- The supervisor window WS (R154: value 8 of HA[7:4]). -/
abbrev WindowNo.ws : WindowNo := Fin.last 8

/-- A colour value: red, green and blue, each 0 to 1023 (R3). -/
structure Colour where
  /-- the red component, bits 29:20 of a colour word -/
  red : BitVec 10
  /-- the green component, bits 19:10 of a colour word -/
  green : BitVec 10
  /-- the blue component, bits 9:0 of a colour word -/
  blue : BitVec 10
  deriving DecidableEq, Repr, Inhabited

/-- The colour value with red, green and blue all 0, which every cell holds after power-on reset (R17). -/
def Colour.black : Colour := ⟨0, 0, 0⟩

end Sys2Proof
end

