-- ==== Sys2Proof/Syntax.lean ====
section
/-! DEFINITION. The commands the EF1024 takes: one constructor of `Instr` for each row of spec/opcode_table.json, and the
twenty window commands that a command slot can hold. -/

namespace Sys2Proof

/-- A command that a window's slot can hold: the eleven of a client window and the nine of WS that pass through the slot
(R97). PART_RESET is not among them, since HI acts on it at the write. -/
inductive Command where
  | allocShared | hold | free | publish | allocPrivate | store | freeRun | read | query | batchOpen | batchClose
  | clientOpen | clientQuota | clientClose | fix | unfix | mapReset | mapMode | flush | setCommit
  deriving DecidableEq, Repr

/-- What a host port access does: HWE low is a read, HWE high a write of the word on HD (R153, R154). -/
inductive Access where
  /-- a read of the addressed word -/
  | read
  /-- a write of this word -/
  | write (data : Word)
  deriving DecidableEq, Repr

/-- The steps of the part, one constructor for each row of spec/opcode_table.json.

A host port access carries the master number HM[2:0] that makes it, and is judged against the binding of the window it
addresses when it is taken (R100, R128). A completion carries no operand: the engine executes the command that its work in
progress names, with the arguments latched in that window's slot (R95, R105). -/
inductive Instr where
  /-- COMMAND_WRITE (R95): `master` writes `data` to CMD of window `w`. -/
  | commandWrite (w : WindowNo) (master : MasterNo) (data : Word)
  /-- ENGINE_TAKE (R104): the free engine chooses its next piece of work. -/
  | engineTake
  /-- ALLOC_SHARED (R21): completion of the running ALLOC_SHARED. -/
  | allocShared
  /-- HOLD (R31): completion of the running HOLD. -/
  | hold
  /-- FREE (R33): completion of the running FREE. -/
  | free
  /-- PUBLISH (R35): completion of the running PUBLISH. -/
  | publish
  /-- ALLOC_PRIVATE (R40): completion of the running ALLOC_PRIVATE. -/
  | allocPrivate
  /-- STORE (R46): completion of the running STORE. -/
  | store
  /-- FREE_RUN (R52): completion of the running FREE_RUN. -/
  | freeRun
  /-- READ (R54): completion of the running READ. -/
  | read
  /-- QUERY (R70): completion of the running QUERY. -/
  | query
  /-- BATCH_OPEN (R78): completion of the running BATCH_OPEN. -/
  | batchOpen
  /-- BATCH_CLOSE (R79): completion of the running BATCH_CLOSE. -/
  | batchClose
  /-- CLIENT_OPEN (R114): completion of the running CLIENT_OPEN. -/
  | clientOpen
  /-- CLIENT_QUOTA (R117): completion of the running CLIENT_QUOTA. -/
  | clientQuota
  /-- CLIENT_CLOSE (R118): completion of the running CLIENT_CLOSE. -/
  | clientClose
  /-- FIX (R131): completion of the running FIX. -/
  | fix
  /-- UNFIX (R133): completion of the running UNFIX. -/
  | unfix
  /-- MAP_RESET (R134): completion of the running MAP_RESET. -/
  | mapReset
  /-- MAP_MODE (R137): completion of the running MAP_MODE. -/
  | mapMode
  /-- FLUSH (R139): completion of the running FLUSH. -/
  | flush
  /-- SET_COMMIT (R140): completion of the running SET_COMMIT. -/
  | setCommit
  /-- PART_RESET (R145): `master` writes code 0x1F to CMD of WS. -/
  | partReset (master : MasterNo)
  /-- TEARDOWN_SLICE (R122): completion of the running teardown slice. -/
  | teardownSlice
  /-- BLANK_START_EDGE (R151): the next stretch of BLANK, in picoseconds. From where the last stretch ended (or from the release
  of RESET where that is later), the line is low for `low`, then rises and is high for `high`. Either time is 0 where the
  stretch begins high or ends low, as where another event falls within an interval. The part measures the intervals itself
  (`Machine.BlankWatch`). -/
  | blankStartEdge (low high : Nat)
  /-- COOLING_EXPIRY (R13): the countdown event at the CELL STORE. -/
  | coolingExpiry
  /-- LOOKUP (R147): SREQ rises with `map` on SMAP and `index` on SIDX, after `low` at the low level and `period` after the
  last lookup's edge, in picoseconds (R148). -/
  | lookup (map : MapNo) (index : Index) (low period : Nat)
  /-- POWER_ON_RESET (R146): the RESET pin goes low and is held. -/
  | powerOnReset
  /-- RESET_RELEASE (R146): the RESET pin is released with `supm` on the SUPM strap pins. -/
  | resetRelease (supm : MasterNo)
  /-- EV_PEND_WRITE (R109): `master` writes `data` to EV_PEND of window `w`. -/
  | evPendWrite (w : WindowNo) (master : MasterNo) (data : Word)
  /-- EV_EN_WRITE (R109): `master` writes `data` to EV_EN of window `w`. -/
  | evEnWrite (w : WindowNo) (master : MasterNo) (data : Word)
  /-- FAULT_WRITE (R130): `master` writes `data` to FAULT of WS. -/
  | faultWrite (master : MasterNo) (data : Word)
  /-- INSP_SEL_WRITE (R141): `master` writes `data` to INSP_SEL of WS. -/
  | inspSelWrite (master : MasterNo) (data : Word)
  /-- INSP_DATA_READ (R142): `master` reads INSP_DATA of WS. -/
  | inspDataRead (master : MasterNo)
  /-- DENIED_ACCESS (R101): `master` accesses the word with `window` on HA[7:4] and `offset` on HA[3:0], in a window bound to
  another master. -/
  | deniedAccess (window : WindowField) (master : MasterNo) (offset : Offset) (access : Access)
  /-- REGISTER_WRITE (R99): `master` writes `data` to the word at host port address `addr`. -/
  | registerWrite (addr : HostAddr) (master : MasterNo) (data : Word)
  deriving DecidableEq, Repr

end Sys2Proof
end

