-- ==== Sys2Proof/Decode.lean ====
section
/-! DEFINITION. The decodings of the host port: a word of the opcode table (which gives no bits), a host port address (R154),
and a command code (R157, R158). -/

namespace Sys2Proof

/-- The command that a word spells by the table's bits. Every row of spec/opcode_table.json has an empty "fields" and no
"fixed" bits, so no word spells a command. -/
def decodeTableWord (_nbits _w : Nat) : Option Instr := none

/-- The named words of a window (R154). -/
inductive Reg where
  | cmd | arg0 | arg1 | arg2 | res0 | res1 | status | evPend | evEn
  | fault | inspSel | inspData | teardown | queueLevel
  deriving DecidableEq, Repr

/-- The window that a value of HA[7:4] names: 0 to 7 are W0 to W7, 8 is WS, and 9 to 15 name no window (R154). -/
def windowAt (k : WindowField) : Option WindowNo := if h : k.val < 9 then some ⟨k.val, h⟩ else none

/-- The window that HA[7:4] of an address names (R154). -/
def addrWindow (addr : HostAddr) : Option WindowNo := windowAt ⟨addr.toNat / 16, by have := addr.isLt; omega⟩

/-- The word offset that HA[3:0] names (R154). -/
def addrOffset (addr : HostAddr) : Offset := ⟨addr.toNat % 16, Nat.mod_lt _ (by decide)⟩

/-- The word at an offset of a window, none where the offset carries no word: every window has the words at 0x0 to 0x8, and
WS those at 0x9 to 0xD beside them (R154). -/
def regAt (w : WindowNo) (offset : Offset) : Option Reg :=
  match offset.val with
  | 0x0 => some .cmd
  | 0x1 => some .arg0
  | 0x2 => some .arg1
  | 0x3 => some .arg2
  | 0x4 => some .res0
  | 0x5 => some .res1
  | 0x6 => some .status
  | 0x7 => some .evPend
  | 0x8 => some .evEn
  | 0x9 => if w = .ws then some .fault else none
  | 0xA => if w = .ws then some .inspSel else none
  | 0xB => if w = .ws then some .inspData else none
  | 0xC => if w = .ws then some .teardown else none
  | 0xD => if w = .ws then some .queueLevel else none
  | _ => none

/-- The offset of a named word (R154). -/
def Reg.offset : Reg → Offset
  | .cmd => 0x0
  | .arg0 => 0x1
  | .arg1 => 0x2
  | .arg2 => 0x3
  | .res0 => 0x4
  | .res1 => 0x5
  | .status => 0x6
  | .evPend => 0x7
  | .evEn => 0x8
  | .fault => 0x9
  | .inspSel => 0xA
  | .inspData => 0xB
  | .teardown => 0xC
  | .queueLevel => 0xD

/-- The code of a command (R157, R158). -/
def Command.code : Command → BitVec 8
  | .allocShared => 0x01
  | .hold => 0x02
  | .free => 0x03
  | .publish => 0x04
  | .allocPrivate => 0x05
  | .store => 0x06
  | .freeRun => 0x07
  | .read => 0x08
  | .query => 0x09
  | .batchOpen => 0x0A
  | .batchClose => 0x0B
  | .clientOpen => 0x10
  | .clientQuota => 0x11
  | .clientClose => 0x12
  | .fix => 0x13
  | .unfix => 0x14
  | .mapReset => 0x15
  | .mapMode => 0x16
  | .flush => 0x17
  | .setCommit => 0x18

/-- The command that a code names in a client window: 0x01 to 0x0B, and none for any other code (R97, R157). -/
def clientCommand (code : BitVec 8) : Option Command :=
  match code.toNat with
  | 0x01 => some .allocShared
  | 0x02 => some .hold
  | 0x03 => some .free
  | 0x04 => some .publish
  | 0x05 => some .allocPrivate
  | 0x06 => some .store
  | 0x07 => some .freeRun
  | 0x08 => some .read
  | 0x09 => some .query
  | 0x0A => some .batchOpen
  | 0x0B => some .batchClose
  | _ => none

/-- The command that a code names in WS and that passes through its slot: 0x10 to 0x18, and none for any other code (R97,
R158). PART_RESET, 0x1F, does not pass through the slot. -/
def supervisorCommand (code : BitVec 8) : Option Command :=
  match code.toNat with
  | 0x10 => some .clientOpen
  | 0x11 => some .clientQuota
  | 0x12 => some .clientClose
  | 0x13 => some .fix
  | 0x14 => some .unfix
  | 0x15 => some .mapReset
  | 0x16 => some .mapMode
  | 0x17 => some .flush
  | 0x18 => some .setCommit
  | _ => none

/-- The command that a code names in a window (R97). -/
def commandAt (w : WindowNo) (code : BitVec 8) : Option Command :=
  if w = .ws then supervisorCommand code else clientCommand code

end Sys2Proof
end

