-- ==== Sys2Proof/Config.lean ====
section
/-! DEFINITION. The numbers that the spec fixes for every EF1024 ("Principal numbers" of 00_scope.md and the timing table of
section 9.4). The spec leaves no result of any command open, so there is no free value here. -/

namespace Sys2Proof.Config

/-- The entries the UPDATE QUEUE can hold (R72). -/
def queueCapacity : Nat := 128

/-- The occupancy at which the supervisor is told that the queue is filling (R93). -/
def highMark : Nat := 96

/-- The entries a batch can hold (R76). -/
def batchLimit : Nat := 32

/-- The largest count of one holding record (R57). -/
def holdLimit : Nat := 255

/-- The largest quota and the largest warning level (R65, R66). -/
def quotaLimit : Nat := 256

/-- The largest count of a private run (R40). -/
def runLimit : Nat := 64

/-- The alignments a private run may ask for (R40). -/
def alignments : List Nat := [1, 2, 4, 8, 16, 32, 64]

/-- The largest coarseness of a shared match (R4, R21). -/
def coarsenessLimit : Nat := 6

/-- The smallest commit budget (R82). -/
def budgetMin : Nat := 32

/-- The largest commit budget (R82). -/
def budgetMax : Nat := 128

/-- The commit budget after either reset (R82). -/
def budgetDefault : Nat := 64

/-- The largest cooling setting (R82). -/
def coolingLimit : Nat := 3

/-- The cooling setting after either reset (R82). -/
def coolingDefault : Nat := 1

/-- The items one teardown slice takes at most (R122). -/
def sliceItems : Nat := 16

/-- The largest batch serial, after which serials start again at 1 (R78). -/
def serialLimit : Nat := 255

/-- BLANK minimum low time and minimum high time, in picoseconds: 40 ns (section 9.4). -/
def blankPulse : Nat := 40000

/-- SREQ minimum low time, in picoseconds: 2.5 ns (section 9.4). -/
def sreqLow : Nat := 2500

/-- SREQ minimum period, in picoseconds: 8.0 ns (section 9.4). -/
def sreqPeriod : Nat := 8000

end Sys2Proof.Config
end

