-- ==== Sys2Proof/Machine/State.lean ====
section
/-! DEFINITION. The state of the EF1024, block by block, the reasons a step can stop, and the state after power-on reset. -/

namespace Sys2Proof.Machine

/-! ### The CELL STORE -/

/-- The state of a cell with the field present only in it (R5, R6): a PRIVATE cell has an owner, a SHARED cell a reference
count, a COOLING cell a remaining count. -/
inductive CellState where
  /-- FREE: belongs to no one and may be allocated -/
  | free
  /-- PRIVATE: belongs to its owner -/
  | owned (owner : ClientNo)
  /-- SHARED: read-only, with the references all clients hold on it -/
  | shared (references : Nat)
  /-- FIXED: a system colour of the supervisor -/
  | fixed
  /-- COOLING: released, with the frame boundaries left before it is FREE -/
  | cooling (remaining : Nat)
  deriving DecidableEq, Repr, Inhabited

/-- A cell record (R5). Its number is its place in `State.cells`, and its queued field is `State.queued` (R8). -/
structure Cell where
  /-- the state, with the field present in it (R6) -/
  state : CellState
  /-- the value that commands set (R7) -/
  working : Colour
  /-- the value that the scan port returns (R7) -/
  visible : Colour
  deriving DecidableEq, Repr, Inhabited

/-- The mode of a map (R2). -/
inductive MapMode where
  | deferred | direct
  deriving DecidableEq, Repr, Inhabited

/-- A map record (R2). -/
structure MapRecord where
  /-- DEFERRED or DIRECT -/
  mode : MapMode
  /-- whether the map is frozen -/
  frozen : Bool
  deriving DecidableEq, Repr, Inhabited

/-! ### The HOLDINGS TABLE and the UPDATE QUEUE -/

/-- A holding record (R57). -/
structure Holding where
  client : ClientNo
  cell : CellNo
  count : Nat
  deriving DecidableEq, Repr, Inhabited

/-- A batch tag: a client and a serial (R72). -/
structure Tag where
  client : ClientNo
  serial : Nat
  deriving DecidableEq, Repr, Inhabited

/-- An Update Queue entry: a cell, and a batch tag that is absent in a single (R72). -/
structure Entry where
  cell : CellNo
  tag : Option Tag
  deriving DecidableEq, Repr, Inhabited

/-! ### The COMMAND ENGINE -/

/-- The state of a session, with the bound map and bound master present only in OPEN and CLOSING (R112). -/
inductive SessionState where
  | closed
  | opened (map : MapNo) (master : MasterNo)
  | closing (map : MapNo) (master : MasterNo)
  deriving DecidableEq, Repr, Inhabited

/-- A session record (R112). -/
structure Session where
  /-- the state, the bound map and the bound master, which is also HI's binding of the window (R100) -/
  state : SessionState
  quota : Nat
  warning : Nat
  /-- the warning armed flag (R66) -/
  armed : Bool
  /-- the number of PRIVATE cells the client owns (R63) -/
  owned : Nat
  /-- the number of holding records naming the client (R63) -/
  held : Nat
  /-- the serial of the open batch, none where the client has none (R77) -/
  openBatch : Option Nat
  /-- the serial from which the next BATCH_OPEN searches (R77, R78) -/
  nextSerial : Nat
  deriving DecidableEq, Repr, Inhabited

/-- A piece of work of the COMMAND ENGINE (R103). -/
inductive Work where
  /-- the command of a window -/
  | command (w : WindowNo)
  /-- a teardown slice -/
  | slice
  deriving DecidableEq, Repr, Inhabited

/-! ### The HOST INTERFACE -/

/-- A held command: its code and the latched copy of the argument words (R94). -/
structure Held where
  command : Command
  arg0 : Word
  arg1 : Word
  arg2 : Word
  deriving DecidableEq, Repr

/-- A command slot, with the held command present only in WAITING and RUNNING (R94). -/
inductive Slot where
  | empty
  | waiting (held : Held)
  | running (held : Held)
  | complete
  deriving DecidableEq, Repr, Inhabited

/-- The result codes, in the order of their numbers 0 to 17 (section 6.5, R158). -/
inductive ResultCode where
  | ok | badCommand | badArgument | closed | mapFrozen | wrongState | notOwner | notHeld | quota | holdLimit
  | holdingsFull | noSpace | coolingWait | queueFull | batchLimit | noBatch | duplicate | teardownBusy
  deriving DecidableEq, Repr, Inhabited

/-- The posted result of a window (R94). -/
structure Posted where
  result : ResultCode
  res0 : Word
  res1 : Word
  /-- the code of the command that the result belongs to -/
  command : BitVec 8
  deriving DecidableEq, Repr, Inhabited

/-- A register window: its command slot, its words and its event sets (R94, R108). -/
structure Window where
  slot : Slot
  overrun : Bool
  arg0 : Word
  arg1 : Word
  arg2 : Word
  posted : Posted
  /-- the pending set, by the bit positions of EV_PEND (R108, R156) -/
  pending : BitVec 4
  /-- the enabled set, by the bit positions of EV_EN (R108, R156) -/
  enabled : BitVec 4
  deriving DecidableEq, Repr, Inhabited

/-- A report of a denied access (R101, R129). -/
structure FaultReport where
  window : WindowNo
  master : MasterNo
  offset : Offset
  /-- the direction: whether the access was a write -/
  write : Bool
  deriving DecidableEq, Repr, Inhabited

/-- The tables that the inspection cursor reads (R141). -/
inductive InspTable where
  | cells | holdings | queue
  deriving DecidableEq, Repr, Inhabited

/-- The three words of a captured cell record (R141, R142). -/
structure Capture where
  word0 : Word
  word1 : Word
  word2 : Word
  deriving DecidableEq, Repr, Inhabited

/-- The word index of the inspection cursor, with the capture present only at 1 and 2 (R141). -/
inductive CursorWord where
  | first
  | second (capture : Capture)
  | third (capture : Capture)
  deriving DecidableEq, Repr, Inhabited

/-- The inspection cursor (R141). -/
structure Cursor where
  table : InspTable
  position : Fin 1024
  word : CursorWord
  deriving DecidableEq, Repr, Inhabited

/-! ### The BLANK line -/

/-- The watch on BLANK (R151): where the line stands, and the interval in progress, in picoseconds. -/
inductive BlankWatch where
  /-- low, for this long since the most recent fall or the release of RESET, whichever is later -/
  | low (elapsed : Nat)
  /-- high for this long, after a low interval of at least the minimum: an edge that is not yet taken -/
  | rising (elapsed : Nat)
  /-- high, with no edge to be taken before the next fall -/
  | settled
  deriving DecidableEq, Repr, Inhabited

/-! ### The whole part -/

/-- The state of the EF1024. Everything here is the spec's but `readData`, which is the word that HD last carried for a read,
and `pending`, the commands that wait to be taken. -/
structure State where
  /-- CS: the 1024 cell records by global cell number (R1, R5) -/
  cells : Vector Cell 1024
  /-- CS: the four map records (R2) -/
  maps : Vector MapRecord 4
  /-- HT: the 512 slots, none where a slot is empty (R57) -/
  holdings : Vector (Option Holding) 512
  /-- UQ: the entries from the head to the tail (R72) -/
  queue : List Entry
  /-- CU: the commit budget (R82) -/
  budget : Nat
  /-- CU: the cooling setting (R82) -/
  cooling : Nat
  /-- CE: the eight session records (R112) -/
  sessions : Vector Session 8
  /-- CE: the work in progress, none while the engine is free (R103) -/
  work : Option Work
  /-- CE: the last client served (R103) -/
  lastServed : ClientNo
  /-- CE: the slice turn (R103) -/
  sliceTurn : Bool
  /-- CE: whether a teardown is pending (R121) -/
  teardownBusy : Bool
  /-- CE: the client of the pending teardown, or of the last one to end (R121) -/
  teardownClient : ClientNo
  /-- HI: the nine register windows, WS the last (R94) -/
  windows : Vector Window 9
  /-- HI: the binding of WS (R128) -/
  supMaster : MasterNo
  /-- HI: the fault record, none while it is empty (R129) -/
  fault : Option FaultReport
  /-- HI: the MORE flag (R129) -/
  more : Bool
  /-- HI: the inspection cursor (R141) -/
  cursor : Cursor
  /-- SP: the scan result, driven on SCOL (R147) -/
  scanResult : Colour
  /-- the watch on BLANK (R145, R146, R151) -/
  blank : BlankWatch
  /-- the RESET pin is held (R146) -/
  resetHeld : Bool
  /-- the word that the last read returned on HD[31:0]; none while no read has returned one since power-on reset, HD being
  in high impedance while RESET is held (R153) -/
  readData : Option Word
  /-- the commands that wait to be taken, first in, first out (the model's own) -/
  pending : List Instr
  deriving DecidableEq, Repr

/-- The reasons the part stops with a fault. There is none: the spec gives every command its effect, reports a denied access
as an event (R101), and names nothing that stops the part. -/
inductive Fault
  deriving DecidableEq, Repr

/-- The reasons a command has no meaning. -/
inductive Refusal where
  /-- raised by an arm of `exec` for a row that has no meaning yet (no arm raises it now); safe -/
  | notModelled (mnemonic : String)
  deriving DecidableEq, Repr

/-! ### Reset values -/

/-- A cell record after power-on reset (R17). -/
def Cell.reset : Cell := ⟨.free, .black, .black⟩

/-- A map record after either reset (R2). -/
def MapRecord.reset : MapRecord := ⟨.deferred, false⟩

/-- A session record after either reset (R112). -/
def Session.reset : Session := ⟨.closed, 0, 0, false, 0, 0, none, 1⟩

/-- A window after either reset (R94, R108). -/
def Window.reset : Window := ⟨.empty, false, 0, 0, 0, ⟨.ok, 0, 0, 0⟩, 0, 0⟩

/-- The inspection cursor after either reset (R141). -/
def Cursor.reset : Cursor := ⟨.cells, 0, .first⟩

/-- The power-on state of every block, taken at a release of RESET with `supm` on the SUPM pins (R146). The watch on BLANK
starts afresh with a low time of 0 at the release: a line that is high there rises, for the watch, after no low time at all, and
so gives no edge before it has fallen and risen again (R151). -/
def State.powerOn (supm : MasterNo) : State where
  cells := Vector.replicate 1024 .reset
  maps := Vector.replicate 4 .reset
  holdings := Vector.replicate 512 none
  queue := []
  budget := Config.budgetDefault
  cooling := Config.coolingDefault
  sessions := Vector.replicate 8 .reset
  work := none
  lastServed := 7
  sliceTurn := false
  teardownBusy := false
  teardownClient := 0
  windows := Vector.replicate 9 .reset
  supMaster := supm
  fault := none
  more := false
  cursor := .reset
  scanResult := .black
  blank := .low 0
  resetHeld := false
  readData := none
  pending := []

/-- The part right after power-on reset. DESIGN CHOICE, unsafe (notes/assumptions/1.md): the SUPM pins are presented as 0, so
that WS is bound to master 0. A RESET_RELEASE gives them any other value. -/
def State.reset : State := State.powerOn 0

end Sys2Proof.Machine
end

