-- ==== Sys2Proof/Machine/Operands.lean ====
section
/-! DEFINITION. The operand forms of the commands: fields of words, cell numbers, colour words, coarse match, and the result
words that each command posts (chapter 10). -/

namespace Sys2Proof.Machine

/-! ### Fields of a word -/

/-- The unsigned number in bits hi:lo of a word (R155). -/
def bits (hi lo : Nat) (w : Word) : Nat := w.toNat / 2 ^ lo % 2 ^ (hi + 1 - lo)

/-- A word that carries a number in bits hi:lo and 0 in every other bit (R155). -/
def field (hi lo : Nat) (v : Nat) : Word := BitVec.ofNat 32 (v % 2 ^ (hi + 1 - lo) * 2 ^ lo)

/-- A word that carries a flag in one bit and 0 in every other. -/
def flag (bit : Nat) (b : Bool) : Word := field bit bit b.toNat

/-! ### Cell numbers (R1) -/

/-- The global cell number of an index of a map: map × 256 + index (R1). -/
def cellOf (m : MapNo) (i : Index) : CellNo := ⟨m.val * 256 + i.val, by omega⟩

/-- The map that a cell lies in (R1). -/
def mapOf (n : CellNo) : MapNo := ⟨n.val / 256, by omega⟩

/-- The index of a cell within its map (R1). -/
def indexOf (n : CellNo) : Index := ⟨n.val % 256, by omega⟩

/-! ### Arguments given as a whole word (R155) -/

/-- An index argument: none above 255 (R1). -/
def indexArg (w : Word) : Option Index := if h : w.toNat < 256 then some ⟨w.toNat, h⟩ else none

/-- A global cell number argument: none above 1023 (R1). -/
def cellArg (w : Word) : Option CellNo := if h : w.toNat < 1024 then some ⟨w.toNat, h⟩ else none

/-- A map argument: none above 3 (R134, R137, R139). -/
def mapArg (w : Word) : Option MapNo := if h : w.toNat < 4 then some ⟨w.toNat, h⟩ else none

/-- A client argument: none above 7 (R114, R117, R118). -/
def clientArg (w : Word) : Option ClientNo := if h : w.toNat < 8 then some ⟨w.toNat, h⟩ else none

/-- The map field of CLIENT_OPEN, ARG1 bits 7:0: none above 3 (R114, R158). -/
def openMapArg (w : Word) : Option MapNo := if h : bits 7 0 w < 4 then some ⟨bits 7 0 w, h⟩ else none

/-- The master field of CLIENT_OPEN, ARG1 bits 15:8: none above 7 (R114, R158). -/
def openMasterArg (w : Word) : Option MasterNo := if h : bits 15 8 w < 8 then some ⟨bits 15 8 w, h⟩ else none

/-- The source argument of READ: whether the visible value is meant, none above 1 (R54, R157). -/
def sourceArg (w : Word) : Option Bool :=
  match w.toNat with
  | 0 => some false
  | 1 => some true
  | _ => none

/-- The mode argument of MAP_MODE: none where it names no value (R137, R158). -/
def modeArg (w : Word) : Option MapMode :=
  match w.toNat with
  | 0 => some .deferred
  | 1 => some .direct
  | _ => none

/-- The frozen argument of MAP_MODE: none where it names no value (R137, R158). -/
def frozenArg (w : Word) : Option Bool :=
  match w.toNat with
  | 0 => some false
  | 1 => some true
  | _ => none

/-! ### Colour words and coarse match -/

/-- A colour argument: none with either of bits 31:30 set (R3, R155). -/
def colourArg (w : Word) : Option Colour :=
  if bits 31 30 w ≠ 0 then none
  else some ⟨BitVec.ofNat 10 (bits 29 20 w), BitVec.ofNat 10 (bits 19 10 w), BitVec.ofNat 10 (bits 9 0 w)⟩

/-- The colour word of a value: red in bits 29:20, green in 19:10, blue in 9:0, bits 31:30 at 0 (R155). -/
def colourWord (v : Colour) : Word := field 29 20 v.red.toNat ||| field 19 10 v.green.toNat ||| field 9 0 v.blue.toNat

/-- Coarse match: each component gives the same whole quotient by 2 to the power c (R4). -/
def coarseMatch (c : Nat) (a b : Colour) : Bool :=
  a.red.toNat / 2 ^ c == b.red.toNat / 2 ^ c && a.green.toNat / 2 ^ c == b.green.toNat / 2 ^ c &&
    a.blue.toNat / 2 ^ c == b.blue.toNat / 2 ^ c

/-! ### Codes of states and results -/

/-- The number of a result code (section 6.5, R158). -/
def ResultCode.number : ResultCode → Nat
  | .ok => 0
  | .badCommand => 1
  | .badArgument => 2
  | .closed => 3
  | .mapFrozen => 4
  | .wrongState => 5
  | .notOwner => 6
  | .notHeld => 7
  | .quota => 8
  | .holdLimit => 9
  | .holdingsFull => 10
  | .noSpace => 11
  | .coolingWait => 12
  | .queueFull => 13
  | .batchLimit => 14
  | .noBatch => 15
  | .duplicate => 16
  | .teardownBusy => 17

/-- The state code of a cell (R155). -/
def CellState.code : CellState → Nat
  | .free => 0
  | .owned _ => 1
  | .shared _ => 2
  | .fixed => 3
  | .cooling _ => 4

/-- The owner of a cell as a field reads it: 0 where it is absent (R155). -/
def CellState.ownerField : CellState → Nat
  | .owned c => c.val
  | _ => 0

/-- The reference count as a field reads it: 0 where it is absent (R155). -/
def CellState.referencesField : CellState → Nat
  | .shared r => r
  | _ => 0

/-- The cooling remaining as a field reads it: 0 where it is absent (R155). -/
def CellState.coolingField : CellState → Nat
  | .cooling k => k
  | _ => 0

/-- The mode of a map as MAP_MODE's arguments and result spell it (R158). -/
def MapMode.code : MapMode → Nat
  | .deferred => 0
  | .direct => 1

/-! ### What a completion posts (R106, R157, R158) -/

/-- The result code and the result words of a command (R106). -/
structure Reply where
  result : ResultCode
  res0 : Word
  res1 : Word
  deriving DecidableEq, Repr

/-- A refusal, with both result words 0 (R106). -/
def Reply.refusal (r : ResultCode) : Reply := ⟨r, 0, 0⟩

/-- OK with these result words. -/
def Reply.ok (res0 res1 : Word) : Reply := ⟨.ok, res0, res1⟩

/-- The result of a reference taken: the index, NEW or REUSED, and the working value (R25, R27, R157). -/
def Reply.reference (i : Index) (isNew : Bool) (working : Colour) : Reply :=
  .ok (field 7 0 i.val ||| flag 8 (!isNew) ||| flag 9 isNew) (colourWord working)

/-- The result of FREE: the index and the reference count after the command (R34, R51, R157). -/
def Reply.freed (i : Index) (references : Nat) : Reply := .ok (field 7 0 i.val) (field 10 0 references)

/-- The result of READ: the chosen value, and the state, queued field and owner (R54, R157). -/
def Reply.cellRead (value : Colour) (state : CellState) (queued : Bool) : Reply :=
  .ok (colourWord value) (field 2 0 state.code ||| flag 3 queued ||| field 6 4 state.ownerField)

/-- The result of QUERY (R70, R157). -/
def Reply.account (x : Session) (m : MapNo) : Reply :=
  .ok (field 8 0 (x.owned + x.held) ||| field 17 9 x.quota ||| field 26 18 x.warning)
    (field 9 0 x.held ||| field 18 10 x.owned ||| field 26 19 (x.openBatch.getD 0) ||| field 28 27 m.val)

/-- The result of MAP_MODE: the map, the mode and frozen setting in force, and the entries moved (R137, R158). -/
def Reply.mapMode (m : MapNo) (mode : MapMode) (frozen : Bool) (moved : Nat) : Reply :=
  .ok (field 1 0 m.val ||| field 8 8 mode.code ||| flag 9 frozen) (field 7 0 moved)

/-- The result of FLUSH: the map, the entries moved and the cells made FREE (R139, R158). -/
def Reply.flushed (m : MapNo) (moved freed : Nat) : Reply := .ok (field 1 0 m.val) (field 7 0 moved ||| field 24 16 freed)

end Sys2Proof.Machine
end

