-- ==== Sys2Proof/Machine/Flags.lean ====
section
/-! DEFINITION. The window events, the notification line, and the status words (R108, R110, R156). -/

namespace Sys2Proof.Machine

/-- The window events: DONE in every window, the next three in client windows and the last three in WS (R108). -/
inductive Event where
  | done | quotaWarn | mapLost | revoked | closeDone | queueHigh | accessDenied
  deriving DecidableEq, Repr

/-- The place of an event in EV_PEND and EV_EN, as a set of one (R156). -/
def Event.bit : Event → BitVec 4
  | .done => 0b0001
  | .quotaWarn | .closeDone => 0b0010
  | .mapLost | .queueHigh => 0b0100
  | .revoked | .accessDenied => 0b1000

/-- An event is in a set of events. -/
def Event.isIn (e : Event) (set : BitVec 4) : Bool := set &&& e.bit == e.bit

/-- Setting an event pending: a pending event stays pending (R108). -/
def Window.raise (e : Event) (x : Window) : Window := { x with pending := x.pending ||| e.bit }

/-- The condition of the notification line: an event is both pending and enabled (R110). -/
def Window.asserted (x : Window) : Bool := x.pending &&& x.enabled != 0

/-- The pending set after a write to EV_PEND: the events written as 1 are removed (R109, R156). -/
def Window.clearEvents (data : Word) (x : Window) : Window := { x with pending := x.pending &&& ~~~data.setWidth 4 }

/-- The enabled set after a write to EV_EN: the events written as 1, bits 31:4 enabling nothing (R109, R156). -/
def Window.enableEvents (data : Word) (x : Window) : Window := { x with enabled := data.setWidth 4 }

/-- The slot state as STATUS reports it (R156). -/
def Slot.code : Slot → Nat
  | .empty => 0
  | .waiting _ => 1
  | .running _ => 2
  | .complete => 3

/-- STATUS: the slot state, OVERRUN, the posted result code and the posted command code (R94, R156). -/
def Window.status (x : Window) : Word :=
  field 1 0 x.slot.code ||| flag 2 x.overrun ||| field 12 8 x.posted.result.number ||| field 23 16 x.posted.command.toNat

end Sys2Proof.Machine
end

