-- ==== Sys2Proof/Machine/Ops.lean ====
section
/-! DEFINITION. The named operations over the record stores and the register windows, which the meanings share: reading and
writing a record, placing a queue entry, setting a value, releasing a cell, references and charges, the commit walk, the map
drain, the cooling countdown, and posting a result. -/

namespace Sys2Proof.Machine

/-! ### Tables -/

/-- A table with every record replaced by what `f` makes of its number and itself. -/
@[irreducible] def mapTable {α : Type} {n : Nat} (f : Fin n → α → α) (t : Vector α n) : Vector α n :=
  ⟨⟨List.zipWith f (List.finRange n) t.toList⟩, by simp⟩

/-- The lowest number whose record meets `p`. -/
@[irreducible] def lowest {α : Type} {n : Nat} (p : Fin n → α → Bool) (t : Vector α n) : Option (Fin n) :=
  (((List.finRange n).zip t.toList).find? fun x => p x.1 x.2).map Prod.fst

/-- The numbers whose records meet `p`, in ascending order. -/
@[irreducible] def collect {α : Type} {n : Nat} (p : Fin n → α → Bool) (t : Vector α n) : List (Fin n) :=
  (((List.finRange n).zip t.toList).filter fun x => p x.1 x.2).map Prod.fst

/-! ### Reading and writing one record -/

/-- The record of a cell (R5). -/
def State.cell (s : State) (n : CellNo) : Cell := s.cells[n.val]

/-- The state with one cell record replaced. -/
def State.setCell (n : CellNo) (x : Cell) (s : State) : State := { s with cells := s.cells.set n.val x }

/-- The state with every cell record replaced by what `f` makes of its number and itself. -/
def State.mapCells (f : CellNo → Cell → Cell) (s : State) : State := { s with cells := mapTable f s.cells }

/-- The record of a map (R2). -/
def State.map (s : State) (m : MapNo) : MapRecord := s.maps[m.val]

/-- The state with one map record replaced. -/
def State.setMap (m : MapNo) (x : MapRecord) (s : State) : State := { s with maps := s.maps.set m.val x }

/-- The record in a slot of the HOLDINGS TABLE, none where the slot is empty (R57). -/
def State.holding (s : State) (k : SlotNo) : Option Holding := s.holdings[k.val]

/-- The state with one slot of the HOLDINGS TABLE replaced. -/
def State.setHolding (k : SlotNo) (x : Option Holding) (s : State) : State := { s with holdings := s.holdings.set k.val x }

/-- The session record of a client (R112). -/
def State.session (s : State) (c : ClientNo) : Session := s.sessions[c.val]

/-- The state with one session record replaced. -/
def State.setSession (c : ClientNo) (x : Session) (s : State) : State := { s with sessions := s.sessions.set c.val x }

/-- A register window (R94). -/
def State.window (s : State) (w : WindowNo) : Window := s.windows[w.val]

/-- The state with one register window replaced. -/
def State.setWindow (w : WindowNo) (x : Window) (s : State) : State := { s with windows := s.windows.set w.val x }

/-- The state with one window event set pending (R108). -/
def State.raise (w : WindowNo) (e : Event) (s : State) : State := s.setWindow w ((s.window w).raise e)

/-! ### Sessions -/

/-- The bound map, present in OPEN and CLOSING (R112). -/
def SessionState.map? : SessionState → Option MapNo
  | .closed => none
  | .opened m _ => some m
  | .closing m _ => some m

/-- The bound master, present in OPEN and CLOSING (R100, R112). -/
def SessionState.master? : SessionState → Option MasterNo
  | .closed => none
  | .opened _ b => some b
  | .closing _ b => some b

/-- The bound map of an OPEN session. -/
def SessionState.openMap? : SessionState → Option MapNo
  | .opened m _ => some m
  | .closed | .closing _ _ => none

/-- The charge: the owned count and the held count together (R63). -/
def Session.charge (x : Session) : Nat := x.owned + x.held

/-- A command that would raise the charge by `k` units would carry it above the quota (R65). -/
def Session.exceedsQuota (k : Nat) (x : Session) : Bool := decide (x.quota < x.charge + k)

/-- The warning armed flag as CLIENT_OPEN and CLIENT_QUOTA set it (R66). -/
def armedFor (warning charge : Nat) : Bool := decide (warning ≠ 0 ∧ charge < warning)

/-- The counts of a client after a completion, with the warning that follows from the charge before and after the whole
completion: a rise of an armed client's charge to its warning level sets QUOTA_WARN pending and disarms (R67), and a fall
below a level that is not 0 arms (R68). -/
def State.setCounts (c : ClientNo) (owned held : Nat) (s : State) : State :=
  let x := s.session c
  let y := { x with owned := owned, held := held }
  if x.charge < y.charge ∧ x.armed ∧ x.warning ≤ y.charge then
    (s.setSession c { y with armed := false }).raise c.window .quotaWarn
  else if y.charge < x.charge then s.setSession c { y with armed := x.armed || armedFor x.warning y.charge }
  else s.setSession c y

/-! ### The UPDATE QUEUE -/

/-- The queued field of a cell: the queue holds an entry naming it (R8). -/
def State.queued (s : State) (n : CellNo) : Bool := s.queue.any (fun e => e.cell == n)

/-- The tag of a client's open batch, none where it has none (R50, R77). -/
def State.openTag (s : State) (c : ClientNo) : Option Tag := (s.session c).openBatch.map (fun k => ⟨c, k⟩)

/-- A batch is open while its client's session record names its serial (R76). -/
def State.batchOpen (s : State) (t : Tag) : Bool := (s.session t.client).openBatch == some t.serial

/-- An entry is a member of an open batch. -/
def State.inOpenBatch (s : State) (e : Entry) : Bool :=
  match e.tag with
  | none => false
  | some t => s.batchOpen t

/-- An entry carries a batch's tag. -/
def Entry.carries (t : Tag) (e : Entry) : Bool := e.tag == some t

/-- The entry count of a batch (R76). -/
def State.batchCount (s : State) (t : Tag) : Nat := s.queue.countP (·.carries t)

/-- Placing an entry for a cell: a new entry at the tail, raising QUEUE_HIGH when it brings the occupancy from 95 to 96, or
the cell's existing entry moved to the tail and retagged (R74, R93). -/
def State.place (n : CellNo) (tag : Option Tag) (s : State) : State :=
  if s.queued n then { s with queue := s.queue.filter (fun e => e.cell != n) ++ [⟨n, tag⟩] }
  else
    let t := { s with queue := s.queue ++ [⟨n, tag⟩] }
    if s.queue.length + 1 = Config.highMark then t.raise .ws .queueHigh else t

/-- A placement for a cell would need a new position in a full queue: the map is DEFERRED, the cell is not queued and the
queue holds 128 entries (R26, R49, R131). -/
def State.noPosition (s : State) (n : CellNo) : Bool :=
  decide ((s.map (mapOf n)).mode = .deferred) && !s.queued n && decide (Config.queueCapacity ≤ s.queue.length)

/-- Setting a cell's value: in a DIRECT map the working and the visible value, in a DEFERRED map the working value with an
entry placed under the tag (R50, R92). -/
def State.setValue (n : CellNo) (v : Colour) (tag : Option Tag) (s : State) : State :=
  match (s.map (mapOf n)).mode with
  | .direct => s.setCell n { s.cell n with working := v, visible := v }
  | .deferred => (s.setCell n { s.cell n with working := v }).place n tag

/-- Taking entries in one event: the visible value of each named cell becomes its working value, and the entries leave the
queue, the others closing up (R85, R90). -/
def State.takeEntries (p : Entry → Bool) (s : State) : State :=
  let shown := s.mapCells fun n x => if s.queue.any (fun e => e.cell == n && p e) then { x with visible := x.working } else x
  { shown with queue := s.queue.filter (fun e => !p e) }

/-- The entries that a drain of a map moves: those of its cells that are not in an open batch (R90). -/
def State.drains (s : State) (m : MapNo) (e : Entry) : Bool := mapOf e.cell == m && !s.inOpenBatch e

/-- The map drain (R90). -/
def State.drain (m : MapNo) (s : State) : State := s.takeEntries (s.drains m)

/-- What a commit walk has taken so far: the cells of singles and the tags of batches. -/
structure Taken where
  singles : List CellNo
  batches : List Tag
  deriving DecidableEq, Repr

/-- An entry is among those taken. -/
def Taken.has (k : Taken) (e : Entry) : Bool :=
  match e.tag with
  | none => k.singles.contains e.cell
  | some t => k.batches.contains t

/-- The commit walk over the rest of the queue with a remaining budget: members of open batches are passed over, a single
takes one unit, a closed batch its whole entry count, and the walk stops at the first that does not fit (R84). -/
def State.walk (s : State) : List Entry → Nat → Taken → Taken
  | [], _, k => k
  | e :: rest, budget, k =>
    match e.tag with
    | none => if budget = 0 then k else s.walk rest (budget - 1) { k with singles := e.cell :: k.singles }
    | some t =>
      if s.batchOpen t then s.walk rest budget k
      else if k.batches.contains t then s.walk rest budget k
      else if s.batchCount t ≤ budget then s.walk rest (budget - s.batchCount t) { k with batches := t :: k.batches }
      else k

/-- What the commit walk takes of the queue as it stands, with the full budget (R83, R84). -/
def State.committed (s : State) : Taken := s.walk s.queue s.budget ⟨[], []⟩

/-- The commit walk of one frame boundary (R83 to R85). -/
def State.commit (s : State) : State := s.takeEntries s.committed.has

/-! ### Cells -/

/-- One countdown of a cell: a COOLING cell's remaining count falls by 1, and the cell becomes FREE at 0 (R13). -/
def Cell.cool (x : Cell) : Cell :=
  match x.state with
  | .cooling k => { x with state := if k ≤ 1 then .free else .cooling (k - 1) }
  | _ => x

/-- The cooling countdown at the CELL STORE, in all four maps in one event (R13). -/
def State.countdown (s : State) : State := s.mapCells fun _ x => x.cool

/-- The state that the release procedure gives a cell under a cooling setting (R11). -/
def releasedState (setting : Nat) : CellState := if setting = 0 then .free else .cooling setting

/-- The release procedure, applied to every cell that meets `p` in one completion: the cell becomes COOLING or FREE with its
values kept, and its entry, where it is in an open batch, becomes a single in place (R11). -/
def State.release (p : CellNo → Bool) (s : State) : State :=
  let freed := s.mapCells fun n x => if p n then { x with state := releasedState s.cooling } else x
  { freed with queue := s.queue.map fun e => if p e.cell && s.inOpenBatch e then { e with tag := none } else e }

/-- A cell lies in the run of a map from a first index on, of a count of cells (R41, R52). -/
def inRun (m : MapNo) (first count : Nat) (n : CellNo) : Bool :=
  mapOf n == m && decide (first ≤ (indexOf n).val) && decide ((indexOf n).val < first + count)

/-- A cell is PRIVATE with this client as its owner. -/
def Cell.ownedBy (c : ClientNo) (x : Cell) : Bool := x.state == .owned c

/-- A cell is SHARED. -/
def Cell.isShared (x : Cell) : Bool :=
  match x.state with
  | .shared _ => true
  | _ => false

/-- A cell is COOLING. -/
def Cell.isCooling (x : Cell) : Bool :=
  match x.state with
  | .cooling _ => true
  | _ => false

/-- A cell is FREE. -/
def Cell.isFree (x : Cell) : Bool := x.state == .free

/-- The lowest cell of a map that meets `p`. -/
def State.lowestIn (m : MapNo) (p : Cell → Bool) (s : State) : Option CellNo :=
  lowest (fun n x => mapOf n == m && p x) s.cells

/-! ### Holding records and references -/

/-- A slot holds the record of a client on a cell (R58). -/
def records (c : ClientNo) (n : CellNo) (x : Option Holding) : Bool :=
  match x with
  | none => false
  | some r => r.client == c && r.cell == n

/-- The slot of a client's record on a cell: the one record that matches, or none (R58). -/
def State.findHolding (s : State) (c : ClientNo) (n : CellNo) : Option SlotNo := lowest (fun _ x => records c n x) s.holdings

/-- The lowest-numbered empty slot, none where the table is full (R57, R59). -/
def State.emptySlot (s : State) : Option SlotNo := lowest (fun _ x => x.isNone) s.holdings

/-- The count of the record in a slot. -/
def State.recordCount (s : State) (k : SlotNo) : Nat :=
  match s.holding k with
  | none => 0
  | some r => r.count

/-- The reference count of a cell, 0 where it is absent. -/
def State.references (s : State) (n : CellNo) : Nat := (s.cell n).state.referencesField

/-- A cell with one reference more (R23, R24). -/
def State.addReference (n : CellNo) (s : State) : State :=
  s.setCell n { s.cell n with state := .shared (s.references n + 1) }

/-- A cell with `k` references fewer, released where none is left (R34, R123). -/
def State.dropReferences (n : CellNo) (k : Nat) (s : State) : State :=
  if s.references n ≤ k then s.release (· == n)
  else s.setCell n { s.cell n with state := .shared (s.references n - k) }

/-- A new holding record, with count 1, placed in an empty slot, and the charge of its client (R59, R63). -/
def State.placeRecord (c : ClientNo) (n : CellNo) (k : SlotNo) (s : State) : State :=
  (s.setHolding k (some ⟨c, n, 1⟩)).setCounts c (s.session c).owned ((s.session c).held + 1)

/-- A client's holding record taken out of its slot, with its count taken off the cell's reference count and its unit off the
charge (R34, R61, R123). -/
def State.removeRecord (c : ClientNo) (k : SlotNo) (s : State) : State :=
  match s.holding k with
  | none => s
  | some r =>
    ((s.setHolding k none).dropReferences r.cell r.count).setCounts c (s.session c).owned ((s.session c).held - 1)

/-- An owned cell given back through the release procedure, with its unit off the charge (R51, R123). -/
def State.giveBackCell (c : ClientNo) (n : CellNo) (s : State) : State :=
  (s.release (· == n)).setCounts c ((s.session c).owned - 1) (s.session c).held

/-! ### Posting a result -/

/-- A window with a result posted: the slot COMPLETE, the three posted fields, and DONE pending (R95, R106). -/
def Window.answer (code : BitVec 8) (r : Reply) (x : Window) : Window :=
  { x with slot := .complete, posted := ⟨r.result, r.res0, r.res1, code⟩ }.raise .done

/-- The completion of a window's command: its result posted and the engine free (R106). -/
def State.post (w : WindowNo) (c : Command) (r : Reply) (s : State) : State :=
  { s.setWindow w ((s.window w).answer c.code r) with work := none }

end Sys2Proof.Machine
end

