-- ==== Sys2Proof/Machine/Engine.lean ====
section
/-! DEFINITION. The COMMAND ENGINE: its choice of work (ENGINE_TAKE, R104) and the completion of the command that it runs
(R105, R106). -/

namespace Sys2Proof.Machine

/-- What a step answers. -/
abbrev Answer := Host.Outcome State Fault Refusal

/-- A command of the window stands WAITING in its slot. -/
def Slot.isWaiting : Slot → Bool
  | .waiting _ => true
  | .empty | .running _ | .complete => false

/-- The client windows in the order of the engine's search: from the window after the last client served upward, wrapping,
with the last client served last (R104). -/
def searchOrder (last : ClientNo) : List ClientNo :=
  [last + 1, last + 2, last + 3, last + 4, last + 5, last + 6, last + 7, last]

/-- The first client window of the search with a WAITING slot (R104). -/
def State.nextClient (s : State) : Option ClientNo :=
  (searchOrder s.lastServed).find? fun c => (s.window c.window).slot.isWaiting

/-- The engine's choice among the work that exists (R104). -/
def State.choice (s : State) : Option Work :=
  if (s.window .ws).slot.isWaiting then some (.command .ws)
  else if s.teardownBusy && s.sliceTurn then some .slice
  else
    match s.nextClient with
    | some c => some (.command c.window)
    | none => if s.teardownBusy then some .slice else none

/-- A slot whose command is taken: RUNNING, with the held command kept (R105). -/
def Slot.take : Slot → Slot
  | .waiting h => .running h
  | x => x

/-- The slot of a window made RUNNING, as the work in progress (R105). -/
def State.takeCommand (w : WindowNo) (s : State) : State :=
  { s.setWindow w { s.window w with slot := (s.window w).slot.take } with work := some (.command w) }

/-- The taking of a piece of work, with the arbitration fields (R104, R105). -/
def State.take (s : State) : Work → State
  | .slice => { s with work := some .slice, sliceTurn := false }
  | .command w =>
    if h : w.val < 8 then { s.takeCommand w with sliceTurn := true, lastServed := ⟨w.val, h⟩ }
    else { s.takeCommand w with sliceTurn := false }

/-- ENGINE_TAKE (R104): a free engine takes the first work that exists, and stays free where none does. An engine with work in
progress takes nothing. -/
def execEngineTake (s : State) : Answer :=
  if s.resetHeld || s.work.isSome then .next s
  else
    match s.choice with
    | none => .next s
    | some w => .next (s.take w)

/-- The window whose command the engine executes, with the held command (R103, R105). -/
def State.running? (s : State) : Option (WindowNo × Held) :=
  match s.work with
  | some (.command w) =>
    match (s.window w).slot with
    | .running h => some (w, h)
    | .empty | .waiting _ | .complete => none
  | some .slice | none => none

/-- The completion of a client command: where the engine executes this command for a client window, its body is made in the
client's bound map and its result posted, in one event (R105, R106). DEDUCED (notes/assumptions/3.md): where the engine
executes no such command there is no completion, and nothing changes. DESIGN CHOICE (notes/assumptions/4.md): a session that
is not OPEN, which no run brings to a completion (R120), is answered CLOSED. -/
def State.completeClient (s : State) (cmd : Command) (body : ClientNo → MapNo → Held → State → State × Reply) : State :=
  if s.resetHeld then s
  else
    match s.running? with
    | none => s
    | some (w, held) =>
      if h : w.val < 8 ∧ held.command = cmd then
        match (s.session ⟨w.val, h.1⟩).state.openMap? with
        | none => s.post w cmd (.refusal .closed)
        | some m => (body ⟨w.val, h.1⟩ m held s).1.post w cmd (body ⟨w.val, h.1⟩ m held s).2
      else s

/-- The completion of a supervisor command: where the engine executes this command for WS, its body is made and its result
posted, in one event (R105, R106). DEDUCED (notes/assumptions/3.md): elsewhere nothing changes. -/
def State.completeSupervisor (s : State) (cmd : Command) (body : Held → State → State × Reply) : State :=
  if s.resetHeld then s
  else
    match s.running? with
    | none => s
    | some (w, held) =>
      if w = .ws ∧ held.command = cmd then (body held s).1.post w cmd (body held s).2 else s

end Sys2Proof.Machine
end

