-- ==== Sys2Proof/Machine/Accounts.lean ====
section
/-! DEFINITION. QUERY, and the commands that open and close a batch (sections 4.4 and 5.2). -/

namespace Sys2Proof.Machine

/-- QUERY: the client's session record (R70). -/
def query (c : ClientNo) (m : MapNo) (_ : Held) (s : State) : State × Reply := (s, .account (s.session c) m)

/-- QUERY (R70): its completion. -/
def execQuery (s : State) : Answer := .next (s.completeClient .query query)

/-- The serial after one, with 255 followed by 1 (R78). -/
def serialAfter (k : Nat) : Nat := if Config.serialLimit ≤ k then 1 else k + 1

/-- A serial is carried by no entry tagged with the client (R78). -/
def State.serialFree (s : State) (c : ClientNo) (k : Nat) : Bool := !s.queue.any (·.carries ⟨c, k⟩)

/-- The first serial from `k` on, counting up from 255 to 1, that no entry tagged with the client carries, searching at most
`fuel` serials. R78 finds one within 129, since the queue holds at most 128 entries. -/
def State.freeSerial (s : State) (c : ClientNo) : Nat → Nat → Nat
  | 0, k => k
  | fuel + 1, k => if s.serialFree c k then k else s.freeSerial c fuel (serialAfter k)

/-- BATCH_OPEN for a client (R78). -/
def openBatch (c : ClientNo) (m : MapNo) (_ : Held) (s : State) : State × Reply :=
  if (s.session c).openBatch.isSome then (s, .refusal .wrongState)
  else if (s.map m).mode = .direct then (s, .refusal .wrongState)
  else
    let k := s.freeSerial c Config.serialLimit (s.session c).nextSerial
    (s.setSession c { s.session c with openBatch := some k, nextSerial := serialAfter k }, .ok (field 7 0 k) 0)

/-- BATCH_OPEN (R78): its completion. -/
def execBatchOpen (s : State) : Answer := .next (s.completeClient .batchOpen openBatch)

/-- BATCH_CLOSE for a client (R79). -/
def closeBatch (c : ClientNo) (_ : MapNo) (_ : Held) (s : State) : State × Reply :=
  match (s.session c).openBatch with
  | none => (s, .refusal .noBatch)
  | some k =>
    (s.setSession c { s.session c with openBatch := none }, .ok (field 7 0 k) (field 5 0 (s.batchCount ⟨c, k⟩)))

/-- BATCH_CLOSE (R79): its completion. -/
def execBatchClose (s : State) : Answer := .next (s.completeClient .batchClose closeBatch)

end Sys2Proof.Machine
end

