-- ==== Sys2Proof/Machine/Display.lean ====
section
/-! DEFINITION. The display side: the frame boundary, the cooling countdown and the lookup (sections 1.7, 5.3 and chapter 9),
and the output pins as they stand (R110, R147, R153). -/

namespace Sys2Proof.Machine

/-! ### The watch on BLANK (R151) -/

/-- The watch after the line is low for a while: a line that was high has fallen, and its low time is counted from the fall. -/
def BlankWatch.fall (low : Nat) (x : BlankWatch) : BlankWatch :=
  if low = 0 then x
  else
    match x with
    | .low elapsed => .low (elapsed + low)
    | .rising _ | .settled => .low low

/-- A line that has been high for so long, after a low interval of at least the minimum: the edge is taken at the minimum high
time. -/
def BlankWatch.stayHigh (high : Nat) : BlankWatch := if high < Config.blankPulse then .rising high else .settled

/-- The watch after the line is high for a while: a rise that ends a low interval shorter than the minimum is no edge. -/
def BlankWatch.rise (high : Nat) (x : BlankWatch) : BlankWatch :=
  match x with
  | .low elapsed => if high = 0 then x else if elapsed < Config.blankPulse then .settled else .stayHigh high
  | .rising elapsed => .stayHigh (elapsed + high)
  | .settled => .settled

/-- The watch after a stretch of the line, low and then high. -/
def BlankWatch.watch (low high : Nat) (x : BlankWatch) : BlankWatch := (x.fall low).rise high

/-- An edge is taken in a stretch of the line: a low interval of at least the minimum has been watched, and the high time that
follows it reaches the minimum in this stretch. -/
def BlankWatch.takesEdge (low high : Nat) (x : BlankWatch) : Bool :=
  match x.fall low with
  | .low elapsed => decide (Config.blankPulse ≤ elapsed ∧ Config.blankPulse ≤ high)
  | .rising elapsed => decide (Config.blankPulse ≤ elapsed + high)
  | .settled => false

/-- BLANK_START_EDGE (R151): the watch follows the line, and an edge taken is one frame boundary: one commit walk and one
countdown (R12, R83). While RESET is held BLANK is not watched. -/
def execBlankStartEdge (low high : Nat) (s : State) : Answer :=
  if s.resetHeld then .next s
  else
    let t := { s with blank := s.blank.watch low high }
    .next (if s.blank.takesEdge low high then t.commit.countdown else t)

/-- COOLING_EXPIRY (R13): the countdown event at the CELL STORE. -/
def execCoolingExpiry (s : State) : Answer := if s.resetHeld then .next s else .next s.countdown

/-- LOOKUP (R147): the visible value of the named cell becomes the scan result. A rise that ends a low time shorter than the
minimum, or that follows the last lookup's edge by less than the minimum period, is no lookup (R148), and while RESET is held
none is taken (R150). -/
def execLookup (m : MapNo) (i : Index) (low period : Nat) (s : State) : Answer :=
  if s.resetHeld ∨ low < Config.sreqLow ∨ period < Config.sreqPeriod then .next s
  else .next { s with scanResult := (s.cell (cellOf m i)).visible }

/-! ### Output pins -/

/-- The notification line of a window, asserted high; deasserted while RESET is held (R110, R146, R153). -/
def State.notify (s : State) (w : WindowNo) : Bool := !s.resetHeld && (s.window w).asserted

/-- SCOL[29:0]: bits 29:0 of the colour word of the scan result (R147, R155). -/
def State.scol (s : State) : BitVec 30 := (colourWord s.scanResult).setWidth 30

/-- HRDY: not ready while RESET is held (R153). DESIGN CHOICE (notes/assumptions/16.md): the spec states no level outside it but
that each access is completed, and the model drives ready at all times, an access being one event. -/
def State.hostReady (s : State) : Bool := !s.resetHeld

end Sys2Proof.Machine
end

