-- ==== Sys2Proof/Machine/Inspection.lean ====
section
/-! DEFINITION. What the words of the windows read as: the inspection records (R143, R160), the supervisor's words (R159), and
every word by its name (R99, R154). -/

namespace Sys2Proof.Machine

/-! ### Inspection records (R143, R160) -/

/-- Word 0 of a cell's record (R160). -/
def State.cellWord0 (s : State) (n : CellNo) : Word :=
  let x := (s.cell n).state
  field 2 0 x.code ||| flag 3 (s.queued n) ||| field 6 4 x.ownerField ||| field 18 8 x.referencesField |||
    field 21 20 x.coolingField ||| field 31 22 n.val

/-- The three words of a cell's record, as it stands (R142, R160). -/
def State.capture (s : State) (n : CellNo) : Capture :=
  ⟨s.cellWord0 n, colourWord (s.cell n).working, colourWord (s.cell n).visible⟩

/-- The word of a slot of the HOLDINGS TABLE, 0 for an empty one (R160). -/
def holdingWord : Option Holding → Word
  | none => 0
  | some r => field 2 0 r.client.val ||| field 17 8 r.cell.val ||| field 27 20 r.count ||| flag 31 true

/-- The word of the HOLDINGS TABLE at a position. -/
def State.holdingAt (s : State) (p : Nat) : Word :=
  if h : p < 512 then holdingWord (s.holding ⟨p, h⟩) else 0

/-- The word of a queue entry, its open bit judged against the client's session record as it stands (R160). -/
def State.entryWord (s : State) (e : Entry) : Word :=
  match e.tag with
  | none => field 9 0 e.cell.val ||| flag 31 true
  | some t =>
    field 9 0 e.cell.val ||| flag 10 true ||| field 14 12 t.client.val ||| field 23 16 t.serial |||
      flag 24 (s.batchOpen t) ||| flag 31 true

/-- The word of the queue at a position, 0 at or past the tail (R160). -/
def State.entryAt (s : State) (p : Nat) : Word :=
  match s.queue[p]? with
  | none => 0
  | some e => s.entryWord e

/-! ### The inspection cursor (R141, R142) -/

/-- The number of a table in INSP_SEL (R159). -/
def InspTable.number : InspTable → Nat
  | .cells => 0
  | .holdings => 1
  | .queue => 2

/-- The table that a number names, none for 3 (R141, R159). -/
def inspTable (k : Nat) : Option InspTable :=
  match k with
  | 0 => some .cells
  | 1 => some .holdings
  | 2 => some .queue
  | _ => none

/-- The number of positions of a table (R141). -/
def InspTable.size : InspTable → Nat
  | .cells => 1024
  | .holdings => 512
  | .queue => 128

/-- A position of a table, taken as 0 beyond the last (R141). -/
def InspTable.position (t : InspTable) (p : Nat) : Fin 1024 :=
  if h : p < 1024 ∧ p < t.size then ⟨p, h.1⟩ else 0

/-- The word index of the cursor (R141). -/
def CursorWord.index : CursorWord → Nat
  | .first => 0
  | .second _ => 1
  | .third _ => 2

/-- The cursor after a write to INSP_SEL; unchanged where the table field names no table (R141, R159). -/
def Cursor.select (data : Word) (x : Cursor) : Cursor :=
  match inspTable (bits 1 0 data) with
  | none => x
  | some t => ⟨t, t.position (bits 25 16 data), .first⟩

/-- The cursor at the next record: the position advances by 1, from the last of the table to 0 (R142). -/
def Cursor.advance (x : Cursor) : Cursor := ⟨x.table, x.table.position (x.position.val + 1), .first⟩

/-- The word that a read of INSP_DATA returns (R142). -/
def State.inspWord (s : State) : Word :=
  match s.cursor.table with
  | .cells =>
    match s.cursor.word with
    | .first => (s.capture s.cursor.position).word0
    | .second k => k.word1
    | .third k => k.word2
  | .holdings => s.holdingAt s.cursor.position.val
  | .queue => s.entryAt s.cursor.position.val

/-- The cursor after a read of INSP_DATA (R142). -/
def State.inspNext (s : State) : Cursor :=
  match s.cursor.table with
  | .cells =>
    match s.cursor.word with
    | .first => { s.cursor with word := .second (s.capture s.cursor.position) }
    | .second k => { s.cursor with word := .third k }
    | .third _ => s.cursor.advance
  | .holdings | .queue => s.cursor.advance

/-! ### The words of the windows -/

/-- INSP_SEL as it reads (R141, R159). -/
def Cursor.selWord (x : Cursor) : Word :=
  field 1 0 x.table.number ||| field 25 16 x.position.val ||| field 29 28 x.word.index

/-- FAULT as it reads: bits 11:0 and valid at 0 where the record is empty (R129, R159). -/
def State.faultWord (s : State) : Word :=
  match s.fault with
  | none => flag 30 s.more
  | some r =>
    field 3 0 r.offset.val ||| field 7 4 r.window.val ||| field 10 8 r.master.val ||| flag 11 r.write ||| flag 30 s.more |||
      flag 31 true

/-- TEARDOWN as it reads (R121, R159). -/
def State.teardownWord (s : State) : Word := field 2 0 s.teardownClient.val ||| flag 31 s.teardownBusy

/-- QUEUE_LEVEL as it reads: the occupancy (R93, R159). -/
def State.levelWord (s : State) : Word := field 7 0 s.queue.length

/-- What a word of a window reads as (R99, R154). -/
def State.readWord (s : State) (w : WindowNo) : Reg → Word
  | .cmd => field 7 0 (s.window w).posted.command.toNat
  | .arg0 => (s.window w).arg0
  | .arg1 => (s.window w).arg1
  | .arg2 => (s.window w).arg2
  | .res0 => (s.window w).posted.res0
  | .res1 => (s.window w).posted.res1
  | .status => (s.window w).status
  | .evPend => (s.window w).pending.setWidth 32
  | .evEn => (s.window w).enabled.setWidth 32
  | .fault => s.faultWord
  | .inspSel => s.cursor.selWord
  | .inspData => s.inspWord
  | .teardown => s.teardownWord
  | .queueLevel => s.levelWord

end Sys2Proof.Machine
end

