-- ==== Sys2Proof/Machine/Resets.lean ====
section
/-! DEFINITION. PART_RESET's state, and the power-on reset by the RESET pin (section 8.8). -/

namespace Sys2Proof.Machine

/-- A cell after PART_RESET: FREE, with its visible value kept and its working value set equal to it (R18). -/
def Cell.partReset (x : Cell) : Cell := ⟨.free, x.visible, x.visible⟩

/-- The state that every block takes at a PART_RESET: the power-on state, but for the visible values, the WS binding, the scan
result and the watch on BLANK, which are kept (R145). The word that HD last carried is kept too, since the write is no read. -/
def State.partReset (s : State) : State :=
  { State.powerOn s.supMaster with
    cells := mapTable (fun _ x => x.partReset) s.cells
    scanResult := s.scanResult
    blank := s.blank
    readData := s.readData
    pending := s.pending }

/-- POWER_ON_RESET (R146): the RESET pin is held. Every block is in its power-on state, with all work abandoned (R107), every
notification line deasserted, the scan result 0 (R147) and HD in high impedance (R153), and nothing is taken, and BLANK is
not watched (R151), until the release. DEDUCED (notes/assumptions/6.md): what the record stores hold before the release can be seen by nothing. -/
def execPowerOnReset (s : State) : Answer :=
  .next { State.powerOn s.supMaster with resetHeld := true, pending := s.pending }

/-- RESET_RELEASE (R146): every block takes its power-on state, with WS bound to the master on SUPM (R128), and the watch on
BLANK starts afresh (R151). DEDUCED
(notes/assumptions/6.md): a pin that is not held is not released, and nothing changes. -/
def execResetRelease (supm : MasterNo) (s : State) : Answer :=
  if s.resetHeld then .next { State.powerOn supm with pending := s.pending } else .next s

end Sys2Proof.Machine
end

