-- ==== Sys2Proof/Machine/HostPort.lean ====
section
/-! DEFINITION. The host port: the judging of every access, and the rows that are accesses (chapters 6, 8 and 10). -/

namespace Sys2Proof.Machine

/-! ### Judging an access -/

/-- The bound master of a window: that of WS from SUPM, that of a client window from its session (R100, R128). -/
def State.boundMaster (s : State) (w : WindowNo) : Option MasterNo :=
  if h : w.val < 8 then (s.session ⟨w.val, h⟩).state.master? else some s.supMaster

/-- An access to a window is permitted from any master where the window has no bound master, and else from that master alone
(R100, R128). -/
def State.permitted (s : State) (w : WindowNo) (b : MasterNo) : Bool :=
  match s.boundMaster w with
  | none => true
  | some x => x == b

/-- The direction of an access. -/
def accessWrites : Access → Bool
  | .read => false
  | .write _ => true

/-- The report of a denied access: it fills an empty fault record, and else sets MORE (R129). -/
def State.report (r : FaultReport) (s : State) : State :=
  match s.fault with
  | none => { s with fault := some r }
  | some _ => { s with more := true }

/-- A word returned for a read, on HD. -/
def State.answerRead (x : Word) (s : State) : State := { s with readData := some x }

/-- A denied access: ACCESS_DENIED in WS and a report, a read returning 0 (R101). -/
def State.deny (w : WindowNo) (b : MasterNo) (offset : Offset) (a : Access) (s : State) : State :=
  let t := (s.raise .ws .accessDenied).report ⟨w, b, offset, accessWrites a⟩
  match a with
  | .read => t.answerRead 0
  | .write _ => t

/-! ### Writes to CMD -/

/-- An answer of HI to a command write: the result posted, OVERRUN no (R95). -/
def State.answerWrite (w : WindowNo) (code : BitVec 8) (r : ResultCode) (s : State) : State :=
  s.setWindow w { (s.window w).answer code (.refusal r) with overrun := false }

/-- A window takes the client commands of an OPEN session, and WS takes its commands always (R95). -/
def State.windowOpen (s : State) (w : WindowNo) : Bool :=
  if h : w.val < 8 then (s.session ⟨w.val, h⟩).state.openMap?.isSome else true

/-- A command write that HI accepts: the code and a copy of the argument words become the held command (R95). -/
def State.accept (w : WindowNo) (c : Command) (s : State) : State :=
  let x := s.window w
  s.setWindow w { x with slot := .waiting ⟨c, x.arg0, x.arg1, x.arg2⟩, overrun := false }

/-- A write to CMD by a permitted master: PART_RESET in WS is acted on at once, a write to a WAITING or RUNNING slot is
ignored with OVERRUN, and another is answered BAD_COMMAND or CLOSED or accepted (R95, R96, R97). -/
def State.commandWrite (w : WindowNo) (data : Word) (s : State) : State :=
  let code := data.setWidth 8
  if w = .ws ∧ code = 0x1F then s.partReset
  else
    match (s.window w).slot with
    | .waiting _ | .running _ => s.setWindow w { s.window w with overrun := true }
    | .empty | .complete =>
      match commandAt w code with
      | none => s.answerWrite w code .badCommand
      | some c => if s.windowOpen w then s.accept w c else s.answerWrite w code .closed

/-! ### Every permitted access -/

/-- A permitted write to a word: argument words, the event sets, FAULT and INSP_SEL take it as their rules state, and
read-only words have no effect (R99, R109, R130, R141, R154). -/
def State.writeReg (w : WindowNo) (data : Word) (s : State) : Reg → State
  | .cmd => s.commandWrite w data
  | .arg0 => s.setWindow w { s.window w with arg0 := data }
  | .arg1 => s.setWindow w { s.window w with arg1 := data }
  | .arg2 => s.setWindow w { s.window w with arg2 := data }
  | .evPend => s.setWindow w ((s.window w).clearEvents data)
  | .evEn => s.setWindow w ((s.window w).enableEvents data)
  | .fault => { s with fault := none, more := false }
  | .inspSel => { s with cursor := s.cursor.select data }
  | .res0 | .res1 | .status | .inspData | .teardown | .queueLevel => s

/-- A permitted read of a word: INSP_DATA moves the cursor, and no other read changes anything but HD (R99, R142). -/
def State.readReg (w : WindowNo) (s : State) : Reg → State
  | .inspData => { s.answerRead s.inspWord with cursor := s.inspNext }
  | r => s.answerRead (s.readWord w r)

/-- A permitted access to an offset of a window; an offset that carries no word reads 0 and takes no write (R154). -/
def State.permittedAccess (w : WindowNo) (offset : Offset) (s : State) : Access → State
  | .read =>
    match regAt w offset with
    | none => s.answerRead 0
    | some r => s.readReg w r
  | .write data =>
    match regAt w offset with
    | none => s
    | some r => s.writeReg w data r

/-- An access to an offset of a window, judged against the binding before the offset is looked at (R100, R154). While RESET is
held the part takes none (R146). -/
def State.access (w : WindowNo) (b : MasterNo) (offset : Offset) (a : Access) (s : State) : State :=
  if s.resetHeld then s
  else if s.permitted w b then s.permittedAccess w offset a
  else s.deny w b offset a

/-- An access to an offset of the window that an address names. An address that names no window has no binding to judge: any master's read returns 0 and
a write has no effect, with no denial (R154). -/
def State.accessAt (window : Option WindowNo) (b : MasterNo) (offset : Offset) (a : Access) (s : State) : State :=
  match window, a with
  | some w, _ => s.access w b offset a
  | none, .read => if s.resetHeld then s else s.answerRead 0
  | none, .write _ => s

/-! ### The rows -/

/-- COMMAND_WRITE (R95): a write to CMD of a window. -/
def execCommandWrite (w : WindowNo) (master : MasterNo) (data : Word) (s : State) : Answer :=
  .next (s.access w master Reg.cmd.offset (.write data))

/-- PART_RESET (R145): a write of 0x1F to CMD of WS. -/
def execPartReset (master : MasterNo) (s : State) : Answer := .next (s.access .ws master Reg.cmd.offset (.write 0x1F))

/-- EV_PEND_WRITE (R109): a write to EV_PEND of a window. -/
def execEvPendWrite (w : WindowNo) (master : MasterNo) (data : Word) (s : State) : Answer :=
  .next (s.access w master Reg.evPend.offset (.write data))

/-- EV_EN_WRITE (R109): a write to EV_EN of a window. -/
def execEvEnWrite (w : WindowNo) (master : MasterNo) (data : Word) (s : State) : Answer :=
  .next (s.access w master Reg.evEn.offset (.write data))

/-- FAULT_WRITE (R130): a write to FAULT of WS. -/
def execFaultWrite (master : MasterNo) (data : Word) (s : State) : Answer :=
  .next (s.access .ws master Reg.fault.offset (.write data))

/-- INSP_SEL_WRITE (R141): a write to INSP_SEL of WS. -/
def execInspSelWrite (master : MasterNo) (data : Word) (s : State) : Answer :=
  .next (s.access .ws master Reg.inspSel.offset (.write data))

/-- INSP_DATA_READ (R142): a read of INSP_DATA of WS. -/
def execInspDataRead (master : MasterNo) (s : State) : Answer := .next (s.access .ws master Reg.inspData.offset .read)

/-- DENIED_ACCESS (R101): an access to a window by a master other than its bound master. An access that the binding permits,
or that reaches no window, is no denied access (R100, R154), and proceeds as its own rule states. -/
def execDeniedAccess (window : WindowField) (master : MasterNo) (offset : Offset) (a : Access) (s : State) : Answer :=
  .next (s.accessAt (windowAt window) master offset a)

/-- REGISTER_WRITE (R99): a write to the word at a host port address; an address that names no window takes it from any master
with no effect (R154). -/
def execRegisterWrite (addr : HostAddr) (master : MasterNo) (data : Word) (s : State) : Answer :=
  .next (s.accessAt (addrWindow addr) master (addrOffset addr) (.write data))

end Sys2Proof.Machine
end

