-- ==== Sys2Proof/Machine/PrivateCells.lean ====
section
/-! DEFINITION. The commands on private cells: ALLOC_PRIVATE, STORE, FREE_RUN and READ (chapter 3). -/

namespace Sys2Proof.Machine

/-- Every cell of a run of a map meets `ok`. -/
def State.runMeets (s : State) (m : MapNo) (first count : Nat) (ok : Cell → Bool) : Bool :=
  (lowest (fun n x => inRun m first count n && !ok x) s.cells).isNone

/-- The run search: the lowest first index that is a multiple of the alignment, with the run inside the map and every cell of
it meeting `ok` (R41). -/
def State.findRun (s : State) (m : MapNo) (count align : Nat) (ok : Cell → Bool) : Option Nat :=
  (List.range 256).find? fun i => i % align == 0 && decide (i + count ≤ 256) && s.runMeets m i count ok

/-- A run of a map made PRIVATE to a client, with values and entries kept (R43, R44). -/
def takeRun (c : ClientNo) (m : MapNo) (first count : Nat) (s : State) : State :=
  (s.mapCells fun n x => if inRun m first count n then { x with state := .owned c } else x).setCounts c
    ((s.session c).owned + count) (s.session c).held

/-- ALLOC_PRIVATE in a client's bound map (R40 to R43). -/
def allocPrivate (c : ClientNo) (m : MapNo) (h : Held) (s : State) : State × Reply :=
  let count := h.arg0.toNat
  let align := h.arg1.toNat
  if count = 0 ∨ Config.runLimit < count ∨ align ∉ Config.alignments then (s, .refusal .badArgument)
  else if (s.map m).frozen then (s, .refusal .mapFrozen)
  else if (s.session c).exceedsQuota count then (s, .refusal .quota)
  else
    match s.findRun m count align Cell.isFree with
    | some first => (takeRun c m first count s, .ok (field 7 0 first) 0)
    | none =>
      if (s.findRun m count align fun x => x.isFree || x.isCooling).isSome then (s, .refusal .coolingWait)
      else (s, .refusal .noSpace)

/-- ALLOC_PRIVATE (R40): its completion. -/
def execAllocPrivate (s : State) : Answer := .next (s.completeClient .allocPrivate allocPrivate)

/-- A STORE to a cell would add a new member to the client's open batch, and the batch already holds 32 entries (R46, R48). -/
def State.batchFull (s : State) (c : ClientNo) (n : CellNo) : Bool :=
  match s.openTag c with
  | none => false
  | some t => !s.queue.any (fun e => e.cell == n && e.carries t) && decide (Config.batchLimit ≤ s.batchCount t)

/-- STORE in a client's bound map (R46 to R50). -/
def store (c : ClientNo) (m : MapNo) (h : Held) (s : State) : State × Reply :=
  if (s.map m).frozen then (s, .refusal .mapFrozen)
  else
    match indexArg h.arg0 with
    | none => (s, .refusal .badArgument)
    | some i =>
      match (s.cell (cellOf m i)).state with
      | .owned owner =>
        if owner ≠ c then (s, .refusal .notOwner)
        else
          match colourArg h.arg1 with
          | none => (s, .refusal .badArgument)
          | some v =>
            if (s.map m).mode = .deferred ∧ s.batchFull c (cellOf m i) then (s, .refusal .batchLimit)
            else if s.noPosition (cellOf m i) then (s, .refusal .queueFull)
            else
              let t := s.setValue (cellOf m i) v (s.openTag c)
              (t, .ok (field 7 0 i.val) (flag 0 (t.queued (cellOf m i))))
      | .free | .shared _ | .fixed | .cooling _ => (s, .refusal .wrongState)

/-- STORE (R46): its completion. -/
def execStore (s : State) : Answer := .next (s.completeClient .store store)

/-- A run of owned cells given back in one completion (R53). -/
def giveBackRun (c : ClientNo) (m : MapNo) (first count : Nat) (s : State) : State :=
  (s.release (inRun m first count)).setCounts c ((s.session c).owned - count) (s.session c).held

/-- FREE_RUN in a client's bound map (R52, R53). -/
def freeRun (c : ClientNo) (m : MapNo) (h : Held) (s : State) : State × Reply :=
  let first := h.arg0.toNat
  let count := h.arg1.toNat
  if (s.map m).frozen then (s, .refusal .mapFrozen)
  else if count = 0 ∨ Config.runLimit < count ∨ 255 < first ∨ 256 < first + count then (s, .refusal .badArgument)
  else
    match lowest (fun n x => inRun m first count n && !x.ownedBy c) s.cells with
    | some n => (s, ⟨.notOwner, field 7 0 (indexOf n).val, 0⟩)
    | none => (giveBackRun c m first count s, .ok (field 6 0 count) 0)

/-- FREE_RUN (R52): its completion. -/
def execFreeRun (s : State) : Answer := .next (s.completeClient .freeRun freeRun)

/-- READ in a client's bound map (R54). -/
def read (_ : ClientNo) (m : MapNo) (h : Held) (s : State) : State × Reply :=
  match indexArg h.arg0, sourceArg h.arg1 with
  | some i, some visible =>
    let n := cellOf m i
    (s, .cellRead (if visible then (s.cell n).visible else (s.cell n).working) (s.cell n).state (s.queued n))
  | _, _ => (s, .refusal .badArgument)

/-- READ (R54): its completion. -/
def execRead (s : State) : Answer := .next (s.completeClient .read read)

end Sys2Proof.Machine
end

