-- ==== Sys2Proof/Machine/Sessions.lean ====
section
/-! DEFINITION. Client sessions: CLIENT_OPEN, CLIENT_QUOTA, CLIENT_CLOSE and the teardown slice (chapter 7). -/

namespace Sys2Proof.Machine

/-- The session record that CLIENT_OPEN makes (R115). -/
def Session.opened (m : MapNo) (b : MasterNo) (quota warning : Nat) : Session :=
  ⟨.opened m b, quota, warning, armedFor warning 0, 0, 0, none, 1⟩

/-- The window of a client that CLIENT_OPEN opens: the slot EMPTY with OVERRUN no and both event sets empty, the argument
words and the posted result kept (R94, R111, R115). -/
def Window.opened (x : Window) : Window := { x with slot := .empty, overrun := false, pending := 0, enabled := 0 }

/-- CLIENT_OPEN (R114, R115). -/
def openClient (h : Held) (s : State) : State × Reply :=
  match clientArg h.arg0 with
  | none => (s, .refusal .badArgument)
  | some c =>
    if (s.session c).state ≠ .closed then (s, .refusal .wrongState)
    else
      let quota := bits 15 0 h.arg2
      let warning := bits 31 16 h.arg2
      match openMapArg h.arg1, openMasterArg h.arg1 with
      | some m, some b =>
        if Config.quotaLimit < quota ∨ Config.quotaLimit < warning then (s, .refusal .badArgument)
        else
          ((s.setSession c (.opened m b quota warning)).setWindow c.window (s.window c.window).opened,
            .ok (field 2 0 c.val) (field 1 0 m.val))
      | _, _ => (s, .refusal .badArgument)

/-- CLIENT_OPEN (R114): its completion. -/
def execClientOpen (s : State) : Answer := .next (s.completeSupervisor .clientOpen openClient)

/-- A session is OPEN. -/
def SessionState.isOpen : SessionState → Bool
  | .opened _ _ => true
  | .closed | .closing _ _ => false

/-- CLIENT_QUOTA (R117). -/
def setQuota (h : Held) (s : State) : State × Reply :=
  match clientArg h.arg0 with
  | none => (s, .refusal .badArgument)
  | some c =>
    let x := s.session c
    let quota := h.arg1.toNat
    let warning := h.arg2.toNat
    if !x.state.isOpen then (s, .refusal .wrongState)
    else if Config.quotaLimit < quota ∨ Config.quotaLimit < warning then (s, .refusal .badArgument)
    else if quota < x.charge then (s, .refusal .badArgument)
    else
      (s.setSession c { x with quota := quota, warning := warning, armed := armedFor warning x.charge },
        .ok (field 2 0 c.val) (field 8 0 x.charge))

/-- CLIENT_QUOTA (R117): its completion. -/
def execClientQuota (s : State) : Answer := .next (s.completeSupervisor .clientQuota setQuota)

/-- The window of a client that CLIENT_CLOSE closes: a WAITING command is answered CLOSED, and REVOKED is pending (R119). -/
def Window.revoked (x : Window) : Window :=
  match x.slot with
  | .waiting h => (x.answer h.command.code (.refusal .closed)).raise .revoked
  | .empty | .running _ | .complete => x.raise .revoked

/-- What a CLIENT_CLOSE whose checks pass makes of an OPEN session and of its window and the engine (R119). -/
def closeSession (c : ClientNo) (m : MapNo) (b : MasterNo) (s : State) : State :=
  let t := s.setSession c { s.session c with state := .closing m b, openBatch := none }
  { t.setWindow c.window (s.window c.window).revoked with teardownBusy := true, teardownClient := c, sliceTurn := true }

/-- CLIENT_CLOSE (R118, R119). -/
def closeClient (h : Held) (s : State) : State × Reply :=
  match clientArg h.arg0 with
  | none => (s, .refusal .badArgument)
  | some c =>
    match (s.session c).state with
    | .opened m b =>
      if s.teardownBusy then (s, .refusal .teardownBusy)
      else (closeSession c m b s, .ok (field 2 0 c.val) (field 8 0 (s.session c).charge))
    | .closed | .closing _ _ => (s, .refusal .wrongState)

/-- CLIENT_CLOSE (R118): its completion. -/
def execClientClose (s : State) : Answer := .next (s.completeSupervisor .clientClose closeClient)

/-- A slot holds a record that names the client. -/
def names (c : ClientNo) (x : Option Holding) : Bool :=
  match x with
  | none => false
  | some r => r.client == c

/-- The holding records that a slice takes: the first 16 of the client's, in ascending slot order (R122). -/
def State.sliceRecords (s : State) (c : ClientNo) : List SlotNo :=
  (collect (fun _ x => names c x) s.holdings).take Config.sliceItems

/-- The PRIVATE cells that a slice takes: the first of the client's in ascending order, for the items that the records leave
over (R122). -/
def State.sliceCells (s : State) (c : ClientNo) : List CellNo :=
  (collect (fun _ x => x.ownedBy c) s.cells).take (Config.sliceItems - (s.sliceRecords c).length)

/-- A slice that takes items: each record removed, then each cell given back (R123). -/
def takeItems (c : ClientNo) (s : State) : State :=
  (s.sliceCells c).foldl (fun t n => t.giveBackCell c n) ((s.sliceRecords c).foldl (fun t k => t.removeRecord c k) s)

/-- The session record of a client whose teardown has ended (R124). -/
def Session.ended (x : Session) : Session := { x with state := .closed, quota := 0, warning := 0, armed := false }

/-- A slice that finds no item ends the teardown (R124). -/
def endTeardown (c : ClientNo) (s : State) : State :=
  { (s.setSession c (s.session c).ended).raise .ws .closeDone with teardownBusy := false }

/-- The effects of a teardown slice, against the records as they stand at its completion (R122). -/
def slice (c : ClientNo) (s : State) : State :=
  if (s.sliceRecords c).isEmpty && (s.sliceCells c).isEmpty then endTeardown c s else takeItems c s

/-- TEARDOWN_SLICE (R122): the completion of the slice in progress, after which the engine is free. DEDUCED
(notes/assumptions/3.md): where no slice is in progress nothing changes. -/
def execTeardownSlice (s : State) : Answer :=
  if s.resetHeld then .next s
  else
    match s.work with
    | some .slice => .next { (if s.teardownBusy then slice s.teardownClient s else s) with work := none }
    | some (.command _) | none => .next s

end Sys2Proof.Machine
end

