-- ==== Sys2Proof/Machine/SharedColours.lean ====
section
/-! DEFINITION. The commands on shared cells: ALLOC_SHARED, HOLD, FREE and PUBLISH (chapter 2). -/

namespace Sys2Proof.Machine

/-- A reference taken on a SHARED cell: one more on the client's record, or a new record under the quota and full-table
checks (R23, R24, R25). -/
def takeReference (c : ClientNo) (n : CellNo) (s : State) : State × Reply :=
  let reply := Reply.reference (indexOf n) false (s.cell n).working
  match s.findHolding c n with
  | some k =>
    if Config.holdLimit ≤ s.recordCount k then (s, .refusal .holdLimit)
    else ((s.setHolding k (some ⟨c, n, s.recordCount k + 1⟩)).addReference n, reply)
  | none =>
    if (s.session c).exceedsQuota 1 then (s, .refusal .quota)
    else
      match s.emptySlot with
      | none => (s, .refusal .holdingsFull)
      | some k => ((s.addReference n).placeRecord c n k, reply)

/-- A new SHARED cell of the exact value, from the lowest FREE cell of the map (R26 to R29). -/
def makeShared (c : ClientNo) (m : MapNo) (v : Colour) (s : State) : State × Reply :=
  if (s.session c).exceedsQuota 1 then (s, .refusal .quota)
  else
    match s.emptySlot with
    | none => (s, .refusal .holdingsFull)
    | some k =>
      match s.lowestIn m Cell.isFree with
      | none => (s, .refusal (if (s.lowestIn m Cell.isCooling).isSome then .coolingWait else .noSpace))
      | some n =>
        if s.noPosition n then (s, .refusal .queueFull)
        else
          (((s.setCell n { s.cell n with state := .shared 1 }).setValue n v none).placeRecord c n k,
            .reference (indexOf n) true v)

/-- The match search: the lowest SHARED cell of the map whose working value matches at the coarseness (R22). -/
def State.findMatch (s : State) (m : MapNo) (c : Nat) (v : Colour) : Option CellNo :=
  s.lowestIn m fun x => x.isShared && coarseMatch c x.working v

/-- ALLOC_SHARED in a client's bound map (R21). -/
def allocShared (c : ClientNo) (m : MapNo) (h : Held) (s : State) : State × Reply :=
  if (s.map m).frozen then (s, .refusal .mapFrozen)
  else if Config.coarsenessLimit < h.arg1.toNat then (s, .refusal .badArgument)
  else
    match colourArg h.arg0 with
    | none => (s, .refusal .badArgument)
    | some v =>
      match s.findMatch m h.arg1.toNat v with
      | some n => takeReference c n s
      | none => makeShared c m v s

/-- ALLOC_SHARED (R21): its completion. -/
def execAllocShared (s : State) : Answer := .next (s.completeClient .allocShared allocShared)

/-- HOLD in a client's bound map (R31). -/
def hold (c : ClientNo) (m : MapNo) (h : Held) (s : State) : State × Reply :=
  if (s.map m).frozen then (s, .refusal .mapFrozen)
  else
    match indexArg h.arg0 with
    | none => (s, .refusal .badArgument)
    | some i => if (s.cell (cellOf m i)).isShared then takeReference c (cellOf m i) s else (s, .refusal .wrongState)

/-- HOLD (R31): its completion. -/
def execHold (s : State) : Answer := .next (s.completeClient .hold hold)

/-- The shared branch of FREE, on the slot of the client's record (R34). -/
def dropOne (c : ClientNo) (n : CellNo) (k : SlotNo) (s : State) : State :=
  if s.recordCount k ≤ 1 then s.removeRecord c k
  else (s.setHolding k (some ⟨c, n, s.recordCount k - 1⟩)).dropReferences n 1

/-- FREE in a client's bound map: one held reference dropped, or an owned cell given back (R33, R34, R51). -/
def free (c : ClientNo) (m : MapNo) (h : Held) (s : State) : State × Reply :=
  if (s.map m).frozen then (s, .refusal .mapFrozen)
  else
    match indexArg h.arg0 with
    | none => (s, .refusal .badArgument)
    | some i =>
      match (s.cell (cellOf m i)).state with
      | .shared r =>
        match s.findHolding c (cellOf m i) with
        | none => (s, .refusal .notHeld)
        | some k => (dropOne c (cellOf m i) k s, .freed i (r - 1))
      | .owned owner =>
        if owner = c then (s.giveBackCell c (cellOf m i), .freed i 0) else (s, .refusal .notOwner)
      | .free | .fixed | .cooling _ => (s, .refusal .notOwner)

/-- FREE (R33): its completion. -/
def execFree (s : State) : Answer := .next (s.completeClient .free free)

/-- The entry of a cell is in an open batch (R35). -/
def State.cellInOpenBatch (s : State) (n : CellNo) : Bool := s.queue.any fun e => e.cell == n && s.inOpenBatch e

/-- A PRIVATE cell made SHARED with one reference, that of its former owner (R37). -/
def makePublic (c : ClientNo) (n : CellNo) (k : SlotNo) (s : State) : State :=
  ((s.setCell n { s.cell n with state := .shared 1 }).setHolding k (some ⟨c, n, 1⟩)).setCounts c
    ((s.session c).owned - 1) ((s.session c).held + 1)

/-- PUBLISH in a client's bound map (R35, R36, R37). -/
def publish (c : ClientNo) (m : MapNo) (h : Held) (s : State) : State × Reply :=
  if (s.map m).frozen then (s, .refusal .mapFrozen)
  else
    match indexArg h.arg0 with
    | none => (s, .refusal .badArgument)
    | some i =>
      match (s.cell (cellOf m i)).state with
      | .owned owner =>
        if owner ≠ c then (s, .refusal .notOwner)
        else if s.cellInOpenBatch (cellOf m i) then (s, .refusal .wrongState)
        else
          match s.lowestIn m (fun x => x.isShared && x.working == (s.cell (cellOf m i)).working) with
          | some n => (s, ⟨.duplicate, field 7 0 (indexOf n).val, 0⟩)
          | none =>
            match s.emptySlot with
            | none => (s, .refusal .holdingsFull)
            | some k => (makePublic c (cellOf m i) k s, .ok (field 7 0 i.val) 0)
      | .free | .shared _ | .fixed | .cooling _ => (s, .refusal .wrongState)

/-- PUBLISH (R35): its completion. -/
def execPublish (s : State) : Answer := .next (s.completeClient .publish publish)

end Sys2Proof.Machine
end

