-- ==== Sys2Proof/Machine/Supervisor.lean ====
section
/-! DEFINITION. The supervisor's commands on cells and maps: FIX, UNFIX, MAP_RESET, MAP_MODE, FLUSH and SET_COMMIT
(chapter 8). -/

namespace Sys2Proof.Machine

/-- FIX (R131, R132). -/
def fix (h : Held) (s : State) : State × Reply :=
  match cellArg h.arg0, colourArg h.arg1 with
  | some n, some v =>
    match (s.cell n).state with
    | .free | .fixed =>
      if s.noPosition n then (s, .refusal .queueFull)
      else
        let t := (s.setCell n { s.cell n with state := .fixed }).setValue n v none
        (t, .ok (field 9 0 n.val) (flag 0 (t.queued n)))
    | .owned _ | .shared _ | .cooling _ => (s, .refusal .wrongState)
  | _, _ => (s, .refusal .badArgument)

/-- FIX (R131): its completion. -/
def execFix (s : State) : Answer := .next (s.completeSupervisor .fix fix)

/-- UNFIX (R133). -/
def unfix (h : Held) (s : State) : State × Reply :=
  match cellArg h.arg0 with
  | none => (s, .refusal .badArgument)
  | some n =>
    match (s.cell n).state with
    | .fixed => (s.release (· == n), .ok (field 9 0 n.val) (field 2 0 (releasedState s.cooling).code))
    | .free | .owned _ | .shared _ | .cooling _ => (s, .refusal .wrongState)

/-- UNFIX (R133): its completion. -/
def execUnfix (s : State) : Answer := .next (s.completeSupervisor .unfix unfix)

/-- A cell after MAP_RESET of its map: FREE unless FIXED, with its working value set to the visible value where its entry is
removed (R134). -/
def Cell.mapReset (queued : Bool) (x : Cell) : Cell :=
  { state := if x.state = .fixed then .fixed else .free
    working := if queued then x.visible else x.working
    visible := x.visible }

/-- A holding record names a cell of the map. -/
def Holding.isOf (m : MapNo) (r : Holding) : Bool := mapOf r.cell == m

/-- The session of a client bound to the reset map (R135). -/
def Session.mapReset (x : Session) : Session :=
  { x with owned := 0, held := 0, openBatch := none, armed := x.armed || decide (x.warning ≠ 0) }

/-- A client window is that of a client bound to the map. -/
def State.boundTo (s : State) (m : MapNo) (w : WindowNo) : Bool :=
  if h : w.val < 8 then (s.session ⟨w.val, h⟩).state.map? == some m else false

/-- MAP_RESET of a map: its entries and holding records removed, its cells emptied, and every client bound to it reached
(R134, R135). -/
def resetMap (m : MapNo) (s : State) : State :=
  { s with
    cells := mapTable (fun n x => if mapOf n == m then x.mapReset (s.queued n) else x) s.cells
    holdings := mapTable (fun _ x => x.filter fun r => !r.isOf m) s.holdings
    queue := s.queue.filter fun e => mapOf e.cell != m
    sessions := mapTable (fun _ x => if x.state.map? = some m then x.mapReset else x) s.sessions
    windows := mapTable (fun w x => if s.boundTo m w then x.raise .mapLost else x) s.windows }

/-- MAP_RESET (R134, R135). -/
def mapReset (h : Held) (s : State) : State × Reply :=
  match mapArg h.arg0 with
  | none => (s, .refusal .badArgument)
  | some m => (resetMap m s, .ok (field 1 0 m.val) (field 7 0 (s.queue.countP fun e => mapOf e.cell == m)))

/-- MAP_RESET (R134): its completion. -/
def execMapReset (s : State) : Answer := .next (s.completeSupervisor .mapReset mapReset)

/-- A client bound to the map has an open batch (R137). -/
def State.mapHasOpenBatch (s : State) (m : MapNo) : Bool :=
  (lowest (fun _ x => decide (x.state.map? = some m) && x.openBatch.isSome) s.sessions).isSome

/-- The number of entries that a drain of a map moves (R90). -/
def State.drainCount (s : State) (m : MapNo) : Nat := s.queue.countP (s.drains m)

/-- MAP_MODE (R137). -/
def mapMode (h : Held) (s : State) : State × Reply :=
  match mapArg h.arg0, modeArg h.arg1, frozenArg h.arg2 with
  | some m, some mode, some frozen =>
    if (s.map m).mode = .deferred ∧ mode = .direct then
      if s.mapHasOpenBatch m then (s, .refusal .wrongState)
      else ((s.drain m).setMap m ⟨mode, frozen⟩, .mapMode m mode frozen (s.drainCount m))
    else (s.setMap m ⟨mode, frozen⟩, .mapMode m mode frozen 0)
  | _, _, _ => (s, .refusal .badArgument)

/-- MAP_MODE (R137): its completion. -/
def execMapMode (s : State) : Answer := .next (s.completeSupervisor .mapMode mapMode)

/-- The number of COOLING cells of a map (R139). -/
def State.coolingCount (s : State) (m : MapNo) : Nat := (collect (fun n x => mapOf n == m && x.isCooling) s.cells).length

/-- The change of FLUSH to the cells of a map: every COOLING cell becomes FREE with its values kept (R139). -/
def endCooling (m : MapNo) (s : State) : State :=
  s.mapCells fun n x => if mapOf n == m && x.isCooling then { x with state := .free } else x

/-- FLUSH (R139). -/
def flush (h : Held) (s : State) : State × Reply :=
  match mapArg h.arg0 with
  | none => (s, .refusal .badArgument)
  | some m => (endCooling m (s.drain m), .flushed m (s.drainCount m) (s.coolingCount m))

/-- FLUSH (R139): its completion. -/
def execFlush (s : State) : Answer := .next (s.completeSupervisor .flush flush)

/-- SET_COMMIT (R140). -/
def setCommit (h : Held) (s : State) : State × Reply :=
  let budget := h.arg0.toNat
  let cooling := h.arg1.toNat
  if budget < Config.budgetMin ∨ Config.budgetMax < budget ∨ Config.coolingLimit < cooling then (s, .refusal .badArgument)
  else ({ s with budget := budget, cooling := cooling }, .ok (field 7 0 budget) (field 1 0 cooling))

/-- SET_COMMIT (R140): its completion. -/
def execSetCommit (s : State) : Answer := .next (s.completeSupervisor .setCommit setCommit)

end Sys2Proof.Machine
end

