-- ==== Sys2Proof/Machine/Dispatch.lean ====
section
/-! DEFINITION. The meaning of every command, one arm for each row of spec/opcode_table.json. -/

namespace Sys2Proof.Machine

def exec (i : Instr) (s : State) : Host.Outcome State Fault Refusal :=
  match i with
  | .commandWrite w master data => Sys2Proof.Machine.execCommandWrite w master data s
  | .engineTake => Sys2Proof.Machine.execEngineTake s
  | .allocShared => Sys2Proof.Machine.execAllocShared s
  | .hold => Sys2Proof.Machine.execHold s
  | .free => Sys2Proof.Machine.execFree s
  | .publish => Sys2Proof.Machine.execPublish s
  | .allocPrivate => Sys2Proof.Machine.execAllocPrivate s
  | .store => Sys2Proof.Machine.execStore s
  | .freeRun => Sys2Proof.Machine.execFreeRun s
  | .read => Sys2Proof.Machine.execRead s
  | .query => Sys2Proof.Machine.execQuery s
  | .batchOpen => Sys2Proof.Machine.execBatchOpen s
  | .batchClose => Sys2Proof.Machine.execBatchClose s
  | .clientOpen => Sys2Proof.Machine.execClientOpen s
  | .clientQuota => Sys2Proof.Machine.execClientQuota s
  | .clientClose => Sys2Proof.Machine.execClientClose s
  | .fix => Sys2Proof.Machine.execFix s
  | .unfix => Sys2Proof.Machine.execUnfix s
  | .mapReset => Sys2Proof.Machine.execMapReset s
  | .mapMode => Sys2Proof.Machine.execMapMode s
  | .flush => Sys2Proof.Machine.execFlush s
  | .setCommit => Sys2Proof.Machine.execSetCommit s
  | .partReset master => Sys2Proof.Machine.execPartReset master s
  | .teardownSlice => Sys2Proof.Machine.execTeardownSlice s
  | .blankStartEdge low high => Sys2Proof.Machine.execBlankStartEdge low high s
  | .coolingExpiry => Sys2Proof.Machine.execCoolingExpiry s
  | .lookup map index low period => Sys2Proof.Machine.execLookup map index low period s
  | .powerOnReset => Sys2Proof.Machine.execPowerOnReset s
  | .resetRelease supm => Sys2Proof.Machine.execResetRelease supm s
  | .evPendWrite w master data => Sys2Proof.Machine.execEvPendWrite w master data s
  | .evEnWrite w master data => Sys2Proof.Machine.execEvEnWrite w master data s
  | .faultWrite master data => Sys2Proof.Machine.execFaultWrite master data s
  | .inspSelWrite master data => Sys2Proof.Machine.execInspSelWrite master data s
  | .inspDataRead master => Sys2Proof.Machine.execInspDataRead master s
  | .deniedAccess window master offset access => Sys2Proof.Machine.execDeniedAccess window master offset access s
  | .registerWrite addr master data => Sys2Proof.Machine.execRegisterWrite addr master data s

end Sys2Proof.Machine
end

