-- ==== Sys2Proof/WellFormed.lean ====
section
/-! DEFINITION. Well-formed commands: each host port row holds the accesses that spec/opcode_table.json gives it and no other
row's. The operand types already bound every number to its pins, so no other check is needed. The meanings are total, and take
an ill-formed command for the access that it spells. -/

namespace Sys2Proof

/-- The code of PART_RESET, which HI acts on at the write to CMD of WS (R97). -/
def partResetCode : BitVec 8 := 0x1F

/-- The word offsets of a window that a row of their own writes: CMD, EV_PEND, EV_EN and, in WS, FAULT and INSP_SEL
(R154). -/
def writeHasOwnRow (addr : HostAddr) : Bool :=
  let window := addr.toNat / 16
  let offset := addr.toNat % 16
  (decide (window ≤ 8) && (offset == 0x0 || offset == 0x7 || offset == 0x8)) ||
    (window == 8 && (offset == 0x9 || offset == 0xA))

/-- A command is well formed when it stands in its own row: a CMD write that is a PART_RESET is the row PART_RESET and not
COMMAND_WRITE (R97), and REGISTER_WRITE holds the writes to argument words, read-only words and unused addresses alone
(R99, R154). -/
def Instr.wellFormed : Instr → Bool
  | .commandWrite w _ data => !(decide (w = .ws) && data.setWidth 8 == partResetCode)
  | .registerWrite addr _ _ => !writeHasOwnRow addr
  | .engineTake | .allocShared | .hold | .free | .publish | .allocPrivate | .store | .freeRun | .read | .query
  | .batchOpen | .batchClose | .clientOpen | .clientQuota | .clientClose | .fix | .unfix | .mapReset | .mapMode | .flush
  | .setCommit | .partReset _ | .teardownSlice | .blankStartEdge _ _ | .coolingExpiry | .lookup _ _ _ _ | .powerOnReset
  | .resetRelease _ | .evPendWrite _ _ _ | .evEnWrite _ _ _ | .faultWrite _ _ | .inspSelWrite _ _ | .inspDataRead _
  | .deniedAccess _ _ _ _ => true

end Sys2Proof
end

