-- ==== Sys2Proof/Safety.lean ====
section
/-! DEFINITION. The laws that the spec states of the whole part in every moment, as invariants of a state, and the words in which
a statement says what a completion changes and leaves unchanged. -/

namespace Sys2Proof.Machine

/-! ### Laws of the whole part -/

/-- The ranges of the fields that one record alone decides: the commit unit's settings (R82), a COOLING cell's remaining count
(R10), a SHARED cell's reference count of at least 1 (R6), a holding record's count (R57), the serial of a batch tag (R72), a
session's quota, warning level and serials (R65, R66, R77), the fault record's MORE (R129, R159), the inspection cursor (R141)
and the watch on BLANK (R151). The upper bounds of the reference, owned and held counts rest on the accounts (`LedgerHolds`). -/
structure RangesHold (s : State) : Prop where
  budget : Config.budgetMin ≤ s.budget ∧ s.budget ≤ Config.budgetMax
  cooling : s.cooling ≤ Config.coolingLimit
  remaining : ∀ n k, (s.cell n).state = .cooling k → 1 ≤ k ∧ k ≤ Config.coolingLimit
  references : ∀ n r, (s.cell n).state = .shared r → 1 ≤ r
  count : ∀ k r, s.holding k = some r → 1 ≤ r.count ∧ r.count ≤ Config.holdLimit
  tagSerial : ∀ e ∈ s.queue, ∀ t, e.tag = some t → 1 ≤ t.serial ∧ t.serial ≤ Config.serialLimit
  quota : ∀ c, (s.session c).quota ≤ Config.quotaLimit ∧ (s.session c).warning ≤ Config.quotaLimit
  nextSerial : ∀ c, 1 ≤ (s.session c).nextSerial ∧ (s.session c).nextSerial ≤ Config.serialLimit
  openSerial : ∀ c k, (s.session c).openBatch = some k → 1 ≤ k ∧ k ≤ Config.serialLimit
  more : s.fault = none → s.more = false
  position : s.cursor.position.val < s.cursor.table.size
  capture : s.cursor.table ≠ .cells → s.cursor.word = .first
  rising : ∀ elapsed, s.blank = .rising elapsed → elapsed < Config.blankPulse

/-- The command a slot holds, in WAITING and RUNNING. -/
def Slot.held? : Slot → Option Held
  | .waiting h | .running h => some h
  | .empty | .complete => none

/-- A slot is RUNNING. -/
def Slot.isRunning : Slot → Bool
  | .running _ => true
  | .empty | .waiting _ | .complete => false

/-- A session is CLOSING. -/
def SessionState.isClosing : SessionState → Bool
  | .closing _ _ => true
  | .closed | .opened _ _ => false

/-- One piece of work at a time, and one teardown (R94, R103, R105, R121): the RUNNING slot is that of the work in progress;
a held command is a command of its window; a client window that holds one has an OPEN session (R95, R120); a slice in progress
has a teardown pending; and the client of the pending teardown is exactly the CLOSING one. -/
structure EngineHolds (s : State) : Prop where
  running : ∀ w, (s.window w).slot.isRunning ↔ s.work = some (.command w)
  command : ∀ w h, (s.window w).slot.held? = some h → commandAt w h.command.code = some h.command
  session : ∀ c h, (s.window (ClientNo.window c)).slot.held? = some h → (s.session c).state.isOpen
  slice : s.work = some .slice → s.teardownBusy
  closing : ∀ c, (s.session c).state.isClosing ↔ (s.teardownBusy ∧ s.teardownClient = c)

/-- The references that the holding records count on a cell, all clients together (R62). -/
def State.countsOn (s : State) (n : CellNo) : Nat :=
  (s.holdings.toList.map fun x =>
    match x with
    | none => 0
    | some r => if r.cell = n then r.count else 0).sum

/-- The accounts agree with the records (R6, R20, R58, R62, R63, R66). -/
structure LedgerHolds (s : State) : Prop where
  owner : ∀ n c, (s.cell n).state = .owned c → (s.session c).state.map? = some (mapOf n)
  record : ∀ k r, s.holding k = some r →
    1 ≤ r.count ∧ r.count ≤ Config.holdLimit ∧ (s.session r.client).state.map? = some (mapOf r.cell)
  oneRecord : ∀ k k' r r', s.holding k = some r → s.holding k' = some r' → r.client = r'.client → r.cell = r'.cell → k = k'
  references : ∀ n, s.references n = s.countsOn n
  shared : ∀ n r, (s.cell n).state = .shared r → 1 ≤ r
  owned : ∀ c, (s.session c).owned = (collect (fun _ x => x.ownedBy c) s.cells).length
  held : ∀ c, (s.session c).held = (collect (fun _ x => names c x) s.holdings).length
  quota : ∀ c, (s.session c).charge ≤ (s.session c).quota
  armed : ∀ c, (s.session c).armed ↔ ((s.session c).warning ≠ 0 ∧ (s.session c).charge < (s.session c).warning)
  oneValue : ∀ n n', (s.cell n).isShared → (s.cell n').isShared → mapOf n = mapOf n' →
    (s.cell n).working = (s.cell n').working → n = n'

/-- The laws of the queue and its batches (R72, R75, R76, R80, R92): at most 128 entries, each cell named once and in a DEFERRED
map; a cell whose two values differ is queued; at most 32 entries in a batch, all of one map; every entry of an open batch
names a PRIVATE cell of the batch's client; and a client with an open batch is OPEN, on a DEFERRED map. -/
structure QueueHolds (s : State) : Prop where
  length : s.queue.length ≤ Config.queueCapacity
  once : (s.queue.map Entry.cell).Nodup
  deferred : ∀ e ∈ s.queue, (s.map (mapOf e.cell)).mode = .deferred
  ahead : ∀ n, (s.cell n).working ≠ (s.cell n).visible → s.queued n
  batch : ∀ t, s.batchCount t ≤ Config.batchLimit
  oneMap : ∀ e ∈ s.queue, ∀ e' ∈ s.queue, e.tag = e'.tag → e.tag ≠ none → mapOf e.cell = mapOf e'.cell
  member : ∀ e ∈ s.queue, ∀ t, e.tag = some t → s.batchOpen t → (s.cell e.cell).state = .owned t.client
  opener : ∀ c k, (s.session c).openBatch = some k →
    ∃ m b, (s.session c).state = .opened m b ∧ (s.map m).mode = .deferred

/-- Every law that the spec states of the part between two events. -/
structure Lawful (s : State) : Prop where
  ranges : RangesHold s
  engine : EngineHolds s
  ledger : LedgerHolds s
  queue : QueueHolds s

/-! ### Which completion the engine is about to make -/

/-- The engine executes a client command with these latched arguments, for an OPEN client bound to map `m`. -/
structure RunsClient (s : State) (c : ClientNo) (m : MapNo) (h : Held) : Prop where
  powered : s.resetHeld = false
  work : s.work = some (.command c.window)
  slot : (s.window c.window).slot = .running h
  session : (s.session c).state.openMap? = some m

/-- The engine executes a supervisor command with these latched arguments. -/
structure RunsSupervisor (s : State) (h : Held) : Prop where
  powered : s.resetHeld = false
  work : s.work = some (.command .ws)
  slot : (s.window .ws).slot = .running h

/-- The engine executes a teardown slice for a client. -/
structure RunsSlice (s : State) (c : ClientNo) : Prop where
  powered : s.resetHeld = false
  work : s.work = some .slice
  busy : s.teardownBusy = true
  client : s.teardownClient = c

/-! ### Who accesses what -/

/-- A master is a stranger to a window where the window has a bound master and it is another: WS is bound to the master of
SUPM, and a client window to the bound master of an OPEN or CLOSING session (R100, R128). -/
def State.IsStranger (s : State) (w : WindowNo) (b : MasterNo) : Prop :=
  (w = .ws ∧ s.supMaster ≠ b) ∨
    ∃ c x, w = ClientNo.window c ∧ (s.session c).state.master? = some x ∧ x ≠ b

/-- The host port access that a row makes: the window, the master, the word offset and the direction with its word. -/
def accessOf : Instr → Option (WindowNo × MasterNo × Offset × Access)
  | .commandWrite w b data => some (w, b, 0x0, .write data)
  | .partReset b => some (.ws, b, 0x0, .write 0x1F)
  | .evPendWrite w b data => some (w, b, 0x7, .write data)
  | .evEnWrite w b data => some (w, b, 0x8, .write data)
  | .faultWrite b data => some (.ws, b, 0x9, .write data)
  | .inspSelWrite b data => some (.ws, b, 0xA, .write data)
  | .inspDataRead b => some (.ws, b, 0xB, .read)
  | .deniedAccess k b offset a => (windowAt k).map fun w => (w, b, offset, a)
  | .registerWrite addr b data => (addrWindow addr).map fun w => (w, b, addrOffset addr, .write data)
  | .engineTake | .allocShared | .hold | .free | .publish | .allocPrivate | .store | .freeRun | .read | .query | .batchOpen
  | .batchClose | .clientOpen | .clientQuota | .clientClose | .fix | .unfix | .mapReset | .mapMode | .flush | .setCommit
  | .teardownSlice | .blankStartEdge _ _ | .coolingExpiry | .lookup _ _ _ _ | .powerOnReset | .resetRelease _ => none

/-- A row stands for what its name says: it is well formed, and a DENIED_ACCESS is one that the binding denies. -/
structure Genuine (i : Instr) (s : State) : Prop where
  form : i.wellFormed = true
  denial : ∀ k b offset a, i = .deniedAccess k b offset a → ∃ w, windowAt k = some w ∧ s.IsStranger w b

/-- A row is a reset of the part: PART_RESET, or either event of a power-on reset. -/
def ResetsPart (i : Instr) : Prop := (∃ b, i = .partReset b) ∨ i = .powerOnReset ∨ ∃ supm, i = .resetRelease supm

/-! ### What a completion changes -/

/-- A window with events set pending beside those it has (R108). -/
def Window.signalled (x : Window) (events : BitVec 4) : Window := { x with pending := x.pending ||| events }

/-- A window after a result is posted there, with `also` the events set pending beside DONE (R106). -/
def Window.completed (x : Window) (c : Command) (r : Reply) (also : BitVec 4) : Window :=
  { x with
    slot := .complete
    posted := ⟨r.result, r.res0, r.res1, c.code⟩
    pending := x.pending ||| Event.done.bit ||| also }

/-- A window after HI answers a write to its CMD itself (R95). -/
def Window.answered (x : Window) (code : BitVec 8) (r : ResultCode) : Window :=
  { x with slot := .complete, overrun := false, posted := ⟨r, 0, 0, code⟩, pending := x.pending ||| Event.done.bit }

/-- The completion of the command of window `w` posts this result and frees the engine, and no other window changes. -/
structure Posts (s t : State) (w : WindowNo) (c : Command) (r : Reply) (also : BitVec 4) : Prop where
  window : t.window w = (s.window w).completed c r also
  others : ∀ w', w' ≠ w → t.window w' = s.window w'
  free : t.work = none

/-- The completion of the command of a client posts this result and frees the engine, WS has `high` set pending, and no other
window changes. -/
structure PostsAndSignals (s t : State) (c : ClientNo) (cmd : Command) (r : Reply) (also high : BitVec 4) : Prop where
  window : t.window c.window = (s.window c.window).completed cmd r also
  ws : t.window .ws = (s.window .ws).signalled high
  others : ∀ w', w' ≠ c.window → w' ≠ .ws → t.window w' = s.window w'
  free : t.work = none

/-- Everything but the cells, the holding records, the queue, the sessions, the windows and the work in progress is unchanged. -/
structure KeepsRest (s t : State) : Prop where
  maps : t.maps = s.maps
  budget : t.budget = s.budget
  cooling : t.cooling = s.cooling
  lastServed : t.lastServed = s.lastServed
  sliceTurn : t.sliceTurn = s.sliceTurn
  teardownBusy : t.teardownBusy = s.teardownBusy
  teardownClient : t.teardownClient = s.teardownClient
  supMaster : t.supMaster = s.supMaster
  fault : t.fault = s.fault
  more : t.more = s.more
  cursor : t.cursor = s.cursor
  scanResult : t.scanResult = s.scanResult
  blank : t.blank = s.blank
  resetHeld : t.resetHeld = s.resetHeld
  readData : t.readData = s.readData
  pending : t.pending = s.pending

/-- The record stores and the session table are unchanged. -/
structure KeepsRecords (s t : State) : Prop where
  cells : t.cells = s.cells
  holdings : t.holdings = s.holdings
  queue : t.queue = s.queue
  sessions : t.sessions = s.sessions

/-- A completion that posts this result and changes nothing else. -/
structure OnlyPosts (s t : State) (w : WindowNo) (c : Command) (r : Reply) : Prop where
  posts : Posts s t w c r 0
  records : KeepsRecords s t
  rest : KeepsRest s t

/-- A refused command: its result code is posted with result words 0, and nothing else changes (R105, R106). -/
def Refuses (s t : State) (w : WindowNo) (c : Command) (r : ResultCode) : Prop := OnlyPosts s t w c (.refusal r)

/-- Every session record but one is unchanged. -/
def KeepsOtherSessions (s t : State) (c : ClientNo) : Prop := ∀ c', c' ≠ c → t.session c' = s.session c'

/-- Every cell record but one is unchanged. -/
def KeepsOtherCells (s t : State) (n : CellNo) : Prop := ∀ n', n' ≠ n → t.cell n' = s.cell n'

/-- Every slot of the HOLDINGS TABLE but one is unchanged. -/
def KeepsOtherSlots (s t : State) (k : SlotNo) : Prop := ∀ k', k' ≠ k → t.holding k' = s.holding k'

/-- A session record with new counts, and the armed flag that follows from the charge before and after (R67, R68). -/
def Session.recount (x : Session) (owned held : Nat) : Session :=
  { x with
    owned := owned
    held := held
    armed :=
      if x.owned + x.held < owned + held then x.armed && decide (owned + held < x.warning)
      else if owned + held < x.owned + x.held then x.armed || decide (x.warning ≠ 0 ∧ owned + held < x.warning)
      else x.armed }

/-- QUOTA_WARN where a completion brings an armed client's charge up to its warning level, and no event elsewhere (R67). -/
def Session.warnEvent (x : Session) (owned held : Nat) : BitVec 4 :=
  if x.owned + x.held < owned + held ∧ x.armed ∧ x.warning ≤ owned + held then Event.quotaWarn.bit else 0

/-- A cell's record with another state and the same values. -/
def Cell.become (x : Cell) (y : CellState) : Cell := { x with state := y }

/-- A cell's record after its value is set, in a map of this mode (R50, R92). -/
def Cell.given (x : Cell) (mode : MapMode) (v : Colour) : Cell :=
  { x with working := v, visible := if mode = .direct then v else x.visible }

/-- The queue after a value is set in a cell: an entry stands at the tail in a DEFERRED map, with any former entry of the cell
left out, and the queue of a DIRECT map's cell is as it was (R74, R92). -/
def State.queueAfter (s : State) (n : CellNo) (tag : Option Tag) : List Entry :=
  if (s.map (mapOf n)).mode = .direct then s.queue else s.queue.filter (fun e => e.cell != n) ++ [⟨n, tag⟩]

/-- QUEUE_HIGH where setting a cell's value appends an entry that brings the occupancy from 95 to 96, and no event elsewhere
(R93). -/
def State.highEvent (s : State) (n : CellNo) : BitVec 4 :=
  if (s.map (mapOf n)).mode = .deferred ∧ s.queued n = false ∧ s.queue.length = 95 then Event.queueHigh.bit else 0

/-- The queue after the release of the cells that meet `p`: their entries in open batches are singles in place, and every other
entry is unchanged (R11). -/
def State.detached (s : State) (p : CellNo → Bool) : List Entry :=
  s.queue.map fun e => if p e.cell && s.inOpenBatch e then ⟨e.cell, none⟩ else e

/-- Entries that meet `p` are taken in one event: the visible value of each cell they name becomes its working value, and they
leave the queue in their order (R85, R90). -/
structure Shows (s t : State) (p : Entry → Bool) : Prop where
  shown : ∀ e ∈ s.queue, p e → t.cell e.cell = { s.cell e.cell with visible := (s.cell e.cell).working }
  hidden : ∀ n, (∀ e ∈ s.queue, e.cell = n → ¬ p e) → t.cell n = s.cell n
  queue : t.queue = s.queue.filter (fun e => !p e)

/-! ### References (R23, R24, R25, R31) -/

/-- A reference is added to the client's record on the cell, in slot `k` (R23). -/
structure AddsReference (s t : State) (c : ClientNo) (n : CellNo) (k : SlotNo) (cmd : Command) : Prop where
  posts : Posts s t c.window cmd (.reference (indexOf n) false (s.cell n).working) 0
  record : t.holding k = some ⟨c, n, s.recordCount k + 1⟩
  slots : KeepsOtherSlots s t k
  cell : t.cell n = (s.cell n).become (.shared (s.references n + 1))
  cells : KeepsOtherCells s t n
  queue : t.queue = s.queue
  sessions : t.sessions = s.sessions
  rest : KeepsRest s t

/-- A record of count 1 is made for the client on the cell, in slot `k` (R24). -/
structure MakesRecord (s t : State) (c : ClientNo) (n : CellNo) (k : SlotNo) (cmd : Command) : Prop where
  posts : Posts s t c.window cmd (.reference (indexOf n) false (s.cell n).working)
    ((s.session c).warnEvent (s.session c).owned ((s.session c).held + 1))
  record : t.holding k = some ⟨c, n, 1⟩
  slots : KeepsOtherSlots s t k
  cell : t.cell n = (s.cell n).become (.shared (s.references n + 1))
  cells : KeepsOtherCells s t n
  queue : t.queue = s.queue
  session : t.session c = (s.session c).recount (s.session c).owned ((s.session c).held + 1)
  sessions : KeepsOtherSessions s t c
  rest : KeepsRest s t

/-- What a command that takes a reference to a SHARED cell does, in its check order: it adds to the client's record, or makes
one, or is refused (R23, R24, R31). -/
def TakesReference (s t : State) (c : ClientNo) (n : CellNo) (cmd : Command) : Prop :=
  match s.findHolding c n with
  | some k =>
    if 255 ≤ s.recordCount k then Refuses s t c.window cmd .holdLimit else AddsReference s t c n k cmd
  | none =>
    if (s.session c).quota < (s.session c).charge + 1 then Refuses s t c.window cmd .quota
    else
      match s.emptySlot with
      | none => Refuses s t c.window cmd .holdingsFull
      | some k => MakesRecord s t c n k cmd

/-! ### Runs -/

/-- A run of a map may start at an index: the index is a multiple of the alignment, the run lies inside the map, and every cell
of it meets `ok` (R41). -/
def State.RunFits (s : State) (m : MapNo) (count align : Nat) (ok : Cell → Bool) (first : Nat) : Prop :=
  first % align = 0 ∧ first + count ≤ 256 ∧
    ∀ j : Index, first ≤ j.val → j.val < first + count → ok (s.cell (cellOf m j))

/-- The serial reached in `j` steps from `k`, counting up with 255 followed by 1 (R78). -/
def serialFrom (k j : Nat) : Nat := (k - 1 + j) % 255 + 1

/-! ### The teardown slice -/

/-- A slot holds a record that names the client. -/
def State.recordOf (s : State) (c : ClientNo) (k : SlotNo) : Bool := (s.holding k).any fun r => r.client == c

/-- A cell is PRIVATE to the client. -/
def State.cellOwnedBy (s : State) (c : ClientNo) (n : CellNo) : Bool := decide ((s.cell n).state = .owned c)

/-- The items of a slice are the first 16 of the client's records in slot order and then of its PRIVATE cells in index order; it
takes no cell while it leaves a record (R122). -/
structure SliceChooses (s : State) (c : ClientNo) : Prop where
  records : ∀ k, k ∈ s.sliceRecords c ↔
    s.recordOf c k ∧ ((List.finRange 512).countP fun j => decide (j < k) && s.recordOf c j) < 16
  cells : ∀ n, n ∈ s.sliceCells c ↔
    s.cellOwnedBy c n ∧
      (List.finRange 512).countP (s.recordOf c) +
        ((List.finRange 1024).countP fun j => decide (j < n) && s.cellOwnedBy c j) < 16
  recordOrder : (s.sliceRecords c).Pairwise (· < ·)
  cellOrder : (s.sliceCells c).Pairwise (· < ·)

/-- The references that the records of a slice count on a cell (R123). -/
def State.sliceCountOn (s : State) (c : ClientNo) (n : CellNo) : Nat :=
  ((s.sliceRecords c).map fun k =>
    match s.holding k with
    | none => 0
    | some r => if r.cell = n then r.count else 0).sum

/-- A record of a slice names the cell. -/
def State.sliceNames (s : State) (c : ClientNo) (n : CellNo) : Bool :=
  (s.sliceRecords c).any fun k =>
    match s.holding k with
    | none => false
    | some r => r.cell == n

/-- A slice releases the cell: it gives back the cell, or its records count every reference to it (R123). -/
def State.sliceReleases (s : State) (c : ClientNo) (n : CellNo) : Bool :=
  (s.sliceCells c).contains n || (s.sliceNames c n && decide (s.references n ≤ s.sliceCountOn c n))

/-! ### The words of an inspection (R160) -/

/-- A word is the colour word of a value (R155). -/
def SpellsColour (v : Colour) (w : Word) : Prop :=
  bits 9 0 w = v.blue.toNat ∧ bits 19 10 w = v.green.toNat ∧ bits 29 20 w = v.red.toNat ∧ bits 31 30 w = 0

/-- The three words of a cell's record, field by field, with an absent field at 0 (R155, R160). -/
structure SpellsCell (s : State) (n : CellNo) (k : Capture) : Prop where
  code : bits 2 0 k.word0 =
    match (s.cell n).state with
    | .free => 0
    | .owned _ => 1
    | .shared _ => 2
    | .fixed => 3
    | .cooling _ => 4
  queued : bits 3 3 k.word0 = (s.queued n).toNat
  owner : ∀ c, (s.cell n).state = .owned c → bits 6 4 k.word0 = c.val
  noOwner : (∀ c, (s.cell n).state ≠ .owned c) → bits 6 4 k.word0 = 0
  references : ∀ r, (s.cell n).state = .shared r → r ≤ 2040 → bits 18 8 k.word0 = r
  noReferences : (∀ r, (s.cell n).state ≠ .shared r) → bits 18 8 k.word0 = 0
  cooling : ∀ j, (s.cell n).state = .cooling j → j ≤ 3 → bits 21 20 k.word0 = j
  noCooling : (∀ j, (s.cell n).state ≠ .cooling j) → bits 21 20 k.word0 = 0
  cell : bits 31 22 k.word0 = n.val
  unnamed : bits 7 7 k.word0 = 0 ∧ bits 19 19 k.word0 = 0
  working : SpellsColour (s.cell n).working k.word1
  visible : SpellsColour (s.cell n).visible k.word2

/-- The word of a slot of the HOLDINGS TABLE, field by field: 0 where the slot is empty (R160). -/
def SpellsHolding (x : Option Holding) (v : Word) : Prop :=
  match x with
  | none => v = 0
  | some r =>
    bits 2 0 v = r.client.val ∧ bits 7 3 v = 0 ∧ bits 17 8 v = r.cell.val ∧ bits 19 18 v = 0 ∧
      (r.count ≤ 255 → bits 27 20 v = r.count) ∧ bits 30 28 v = 0 ∧ bits 31 31 v = 1

/-- The word of a position of the queue, field by field: 0 at or past the tail, and the batch fields of a single 0 (R160). -/
def SpellsEntry (s : State) (p : Nat) (v : Word) : Prop :=
  match s.queue[p]? with
  | none => v = 0
  | some e =>
    bits 9 0 v = e.cell.val ∧ bits 31 31 v = 1 ∧ (e.tag = none → bits 30 10 v = 0) ∧
      ∀ t, e.tag = some t →
        bits 10 10 v = 1 ∧ bits 11 11 v = 0 ∧ bits 14 12 v = t.client.val ∧ bits 15 15 v = 0 ∧
        (t.serial ≤ 255 → bits 23 16 v = t.serial) ∧
        bits 24 24 v = (decide ((s.session t.client).openBatch = some t.serial)).toNat ∧ bits 30 25 v = 0

/-! ### The watch on BLANK (R151) -/

/-- The length of the low interval of BLANK that ends where the line next rises, when it is low for `low` more: it is timed from
the most recent fall, or from the release of RESET. -/
def State.lowTime (s : State) (low : Nat) : Nat :=
  match s.blank with
  | .low elapsed => elapsed + low
  | .rising _ | .settled => low

/-- An edge is taken in a stretch of BLANK: a low interval of at least 40 ns ends and at least 40 ns high follow; or the high
time of a rise that was watched before, with no fall since, reaches 40 ns. -/
def State.EdgeIn (s : State) (low high : Nat) : Prop :=
  (40000 ≤ s.lowTime low ∧ 40000 ≤ high) ∨ low = 0 ∧ ∃ elapsed, s.blank = .rising elapsed ∧ 40000 ≤ elapsed + high

/-! ### The commit walk -/

/-- Two entries belong to one item of the walk: the same single, or members of the same batch (R84). -/
def Entry.sameItem (e e' : Entry) : Bool :=
  match e.tag with
  | none => e' == e
  | some t => e'.carries t

/-- The position at which the walk first reaches the item of an entry (R84). -/
def State.reachedAt (s : State) (e : Entry) : Nat := s.queue.findIdx e.sameItem

/-- The entries that the walk takes if it takes every eligible item up to that of an entry: those outside open batches whose
item is reached no later (R84). -/
def State.costThrough (s : State) (e : Entry) : Nat :=
  s.queue.countP fun e' => !s.inOpenBatch e' && decide (s.reachedAt e' ≤ s.reachedAt e)

/-! ### Transitions -/

/-- The transitions of a cell's state, with their causes (the table of section 1.3). A state that stays as it is needs no
cause; the reference count of a SHARED cell and the remaining count of a COOLING one move as R5 and R13 state. -/
def CellState.MayBecome (i : Instr) (x y : CellState) : Prop :=
  x = y ∨
    match x, y with
    | .free, .owned _ => i = .allocPrivate
    | .free, .shared r => i = .allocShared ∧ r = 1
    | .free, .fixed => i = .fix
    | .owned _, .shared r => i = .publish ∧ r = 1
    | .shared r, .shared r' =>
      ((i = .allocShared ∨ i = .hold) ∧ r' = r + 1) ∨ (i = .free ∧ r' + 1 = r) ∨ (i = .teardownSlice ∧ r' < r)
    | .owned _, .cooling _ => i = .free ∨ i = .freeRun ∨ i = .teardownSlice
    | .shared _, .cooling _ => i = .free ∨ i = .teardownSlice
    | .fixed, .cooling _ => i = .unfix
    | .cooling k, .cooling k' => ((∃ low high, i = .blankStartEdge low high) ∨ i = .coolingExpiry) ∧ k' + 1 = k
    | .owned _, .free => i = .free ∨ i = .freeRun ∨ i = .teardownSlice ∨ i = .mapReset ∨ ResetsPart i
    | .shared _, .free => i = .free ∨ i = .teardownSlice ∨ i = .mapReset ∨ ResetsPart i
    | .fixed, .free => i = .unfix ∨ ResetsPart i
    | .cooling _, .free =>
      (∃ low high, i = .blankStartEdge low high) ∨ i = .coolingExpiry ∨ i = .flush ∨ i = .mapReset ∨ ResetsPart i
    | _, _ => False

/-- The transitions of a session's state, with their causes (the table of R112). -/
def SessionState.MayBecome (i : Instr) (x y : SessionState) : Prop :=
  x = y ∨
    match x, y with
    | .closed, .opened _ _ => i = .clientOpen
    | .opened m b, .closing m' b' => i = .clientClose ∧ m' = m ∧ b' = b
    | .closing _ _, .closed => i = .teardownSlice ∨ ResetsPart i
    | .opened _ _, .closed => ResetsPart i
    | _, _ => False

end Sys2Proof.Machine
end

