-- ==== Sys2Proof/Certificates/Slice0/Obligations.lean ====
section
/-! DEFINITION. The statements for the provers. Each says which rule of spec/ it formalises, or what it rests on. -/

section
open Sys2Proof Sys2Proof.Machine

/-! ### The block as a whole -/

/-- A step takes the command at the front of the queue and answers what `exec` answers on the rest. On an empty queue it answers
the state as it is, which is the model's choice (notes/assumptions/2.md). -/
def Obligations.StepTakesTheFront : Prop :=
  (∀ (i : Instr) (rest : List Instr) (s : State), s.pending = i :: rest → step s = exec i { s with pending := rest }) ∧
    ∀ s : State, s.pending = [] → step s = .next s

/-- No command stops: each answers a next state, from every state, and leaves the rest of the queue as it was. That a completion
row whose command the engine is not executing, and a row taken while RESET is held, are next states too is the model's choice
(notes/assumptions/3.md, 6.md), and the queue of commands is the model's own (notes/assumptions/12.md). -/
def Obligations.NoCommandStops : Prop :=
  ∀ (i : Instr) (s : State), ∃ t, exec i s = .next t ∧ t.pending = s.pending

/-- The state after a release of RESET meets every law, whatever SUPM presents. -/
def Obligations.LawfulAtReset : Prop := ∀ supm : MasterNo, Lawful (State.powerOn supm)

/-- Every step keeps in range the fields that `RangesHold` lists (R6, R10, R57, R65, R66, R72, R77, R82, R129, R141, R151); and
where the accounts agree too, a reference count is at most 2040 (R5) and an owned or held count at most 256 (R65). -/
def Obligations.StepKeepsRanges : Prop :=
  (∀ s t : State, RangesHold s → step s = .next t → RangesHold t) ∧
    ∀ s : State, RangesHold s → LedgerHolds s →
      (∀ n r, (s.cell n).state = .shared r → r ≤ 2040) ∧ ∀ c, (s.session c).owned ≤ 256 ∧ (s.session c).held ≤ 256

/-- Every step keeps one piece of work and one teardown at a time (R94, R103, R105, R121): the RUNNING slot is that of the work
in progress, and the session of the pending teardown is exactly the CLOSING one. -/
def Obligations.StepKeepsEngine : Prop := ∀ s t : State, EngineHolds s → step s = .next t → EngineHolds t

/-- Every step keeps the accounts (R6, R20, R58, R62, R63, R66): reference counts are the sums of the records, charges count the
cells and records, and no two SHARED cells of a map hold equal working values. -/
def Obligations.StepKeepsLedger : Prop := ∀ s t : State, LedgerHolds s → step s = .next t → LedgerHolds t

/-- Every step keeps every law at once, those of the queue and its batches among them (R72, R75, R76, R80, R92). -/
def Obligations.StepKeepsLaws : Prop := ∀ s t : State, Lawful s → step s = .next t → Lawful t

/-- A cell changes state only as the table of section 1.3 lists, by the causes it lists. -/
def Obligations.CellTransitions : Prop :=
  ∀ (i : Instr) (s t : State) (n : CellNo), LedgerHolds s → Genuine i s → exec i s = .next t →
    CellState.MayBecome i (s.cell n).state (t.cell n).state

/-- A session changes state only as the table of R112 lists, by the causes it lists. -/
def Obligations.SessionTransitions : Prop :=
  ∀ (i : Instr) (s t : State) (c : ClientNo), EngineHolds s → Genuine i s → exec i s = .next t →
    SessionState.MayBecome i (s.session c).state (t.session c).state

/-- A visible value changes only at a frame boundary, at a drain, at a DIRECT-map write, or at power-on reset (section 9.2). -/
def Obligations.VisibleChanges : Prop :=
  ∀ (i : Instr) (s t : State) (n : CellNo), exec i s = .next t → (t.cell n).visible ≠ (s.cell n).visible →
    (∃ low high, i = .blankStartEdge low high) ∨ i = .flush ∨ i = .mapMode ∨
      ((i = .store ∨ i = .allocShared ∨ i = .fix) ∧ (s.map (mapOf n)).mode = .direct) ∨
        i = .powerOnReset ∨ ∃ supm, i = .resetRelease supm

/-- The scan result changes only when a lookup is answered or at power-on reset (R147), and the binding of WS only at the release
of RESET, where it takes the value on SUPM (R128). -/
def Obligations.ScanAndBindingChanges : Prop :=
  (∀ (i : Instr) (s t : State), exec i s = .next t → t.scanResult ≠ s.scanResult →
    (∃ m x low period, i = .lookup m x low period) ∨ i = .powerOnReset ∨ ∃ supm, i = .resetRelease supm) ∧
  ∀ (i : Instr) (s t : State), exec i s = .next t → t.supMaster ≠ s.supMaster →
    s.resetHeld = true ∧ i = .resetRelease t.supMaster

/-- A notification line is asserted exactly while an event is both pending and enabled in its window (R110), and RESET is not
held (R146). -/
def Obligations.NotificationLine : Prop :=
  ∀ (s : State) (w : WindowNo), s.notify w = true ↔
    s.resetHeld = false ∧ ∃ j < 4, (s.window w).pending.getLsbD j = true ∧ (s.window w).enabled.getLsbD j = true

/-- Codes and colour words spell what they stand for and nothing else: a window's code names a command exactly where it is that
command's code and the command is the window's (R97, R157, R158), and a word names a colour exactly where it is that colour's
word (R3, R155). -/
def Obligations.WordsSpell : Prop :=
  (∀ (c : ClientNo) (code : BitVec 8) (cmd : Command),
    commandAt c.window code = some cmd ↔ cmd.code = code ∧ 0x01 ≤ code.toNat ∧ code.toNat ≤ 0x0B) ∧
  (∀ (code : BitVec 8) (cmd : Command),
    commandAt .ws code = some cmd ↔ cmd.code = code ∧ 0x10 ≤ code.toNat ∧ code.toNat ≤ 0x18) ∧
  ∀ (w : Word) (v : Colour), colourArg w = some v ↔ w = colourWord v

/-- The searches find the lowest: the match search the lowest SHARED cell whose working value matches (R22), the record search
the client's record on a cell (R58), the slot search the lowest empty slot (R59), and the run search the lowest first index
(R41). -/
def Obligations.SearchesFindTheLowest : Prop :=
  (∀ (s : State) (m : MapNo) (k : Nat) (v : Colour) (n : CellNo), s.findMatch m k v = some n ↔
    (mapOf n = m ∧ (s.cell n).isShared ∧ coarseMatch k (s.cell n).working v) ∧
      ∀ n' < n, mapOf n' = m → (s.cell n').isShared → ¬ coarseMatch k (s.cell n').working v) ∧
  (∀ (s : State) (c : ClientNo) (n : CellNo), s.findHolding c n = none ↔
    ∀ k r, s.holding k = some r → r.client = c → r.cell ≠ n) ∧
  (∀ (s : State) (c : ClientNo) (n : CellNo) (k : SlotNo), LedgerHolds s →
    (s.findHolding c n = some k ↔ ∃ r, s.holding k = some r ∧ r.client = c ∧ r.cell = n)) ∧
  (∀ (s : State) (k : SlotNo), s.emptySlot = some k ↔ s.holding k = none ∧ ∀ k' < k, s.holding k' ≠ none) ∧
  ∀ (s : State) (m : MapNo) (count align : Nat) (ok : Cell → Bool) (first : Nat), 1 ≤ count →
    (s.findRun m count align ok = some first ↔
      s.RunFits m count align ok first ∧ ∀ i < first, ¬ s.RunFits m count align ok i)

/-! ### Command writes and the engine -/

/-- A write to CMD by a permitted master (R95): it is ignored with OVERRUN while the slot holds a command, answered BAD_COMMAND
for a code that is no command of the window, answered CLOSED in the window of a session that is not OPEN, and else accepted with
a copy of the argument words. No other window and nothing else changes. -/
def Obligations.CommandWriteIsJudged : Prop :=
  ∀ (s : State) (w : WindowNo) (b : MasterNo) (data : Word),
    s.resetHeld = false → ¬ s.IsStranger w b → (Instr.commandWrite w b data).wellFormed = true →
    ∃ t, exec (.commandWrite w b data) s = .next t ∧ t = s.setWindow w (t.window w) ∧
      ((s.window w).slot.held? ≠ none → t.window w = { s.window w with overrun := true }) ∧
      ((s.window w).slot.held? = none →
        (commandAt w (data.setWidth 8) = none → t.window w = (s.window w).answered (data.setWidth 8) .badCommand) ∧
        ∀ cmd, commandAt w (data.setWidth 8) = some cmd →
          ((∃ c, w = ClientNo.window c ∧ (s.session c).state.isOpen = false) →
            t.window w = (s.window w).answered (data.setWidth 8) .closed) ∧
          ((∀ c, w = ClientNo.window c → (s.session c).state.isOpen = true) →
            t.window w =
              { s.window w with
                slot := .waiting ⟨cmd, (s.window w).arg0, (s.window w).arg1, (s.window w).arg2⟩
                overrun := false }))

/-- PART_RESET by the master of WS puts every block in its PART_RESET state (R145), whatever waits or runs, and keeps the
visible values, the binding of WS, the scan result and the watch on BLANK. -/
def Obligations.PartResetState : Prop :=
  ∀ (s : State) (b : MasterNo), s.resetHeld = false → s.supMaster = b →
    ∃ t, exec (.partReset b) s = .next t ∧
      t = { State.powerOn s.supMaster with
            cells := t.cells
            scanResult := s.scanResult
            blank := s.blank
            readData := t.readData
            pending := s.pending } ∧
      ∀ n, t.cell n = ⟨.free, (s.cell n).visible, (s.cell n).visible⟩

/-- What the free engine takes (R104): the supervisor's waiting command, a slice on its turn, the waiting client command first
reached after the last client served, a slice, or nothing. -/
def Obligations.EngineTakesInOrder : Prop :=
  ∀ s : State, s.resetHeld = false → s.work = none →
    ∃ t, exec .engineTake s = .next t ∧
      (∀ h, (s.window .ws).slot = .waiting h →
        t = { s.setWindow .ws { s.window .ws with slot := .running h } with work := some (.command .ws), sliceTurn := false }) ∧
      ((s.window .ws).slot.isWaiting = false →
        (s.teardownBusy ∧ s.sliceTurn → t = { s with work := some .slice, sliceTurn := false }) ∧
        (¬ (s.teardownBusy ∧ s.sliceTurn) →
          (∀ (c : ClientNo) (h : Held), (s.window c.window).slot = .waiting h →
            (∀ c' : ClientNo, (s.window c'.window).slot.isWaiting → (c - s.lastServed - 1) ≤ (c' - s.lastServed - 1)) →
            t = { s.setWindow c.window { s.window c.window with slot := .running h } with
                  work := some (.command c.window)
                  sliceTurn := true
                  lastServed := c }) ∧
          ((∀ c : ClientNo, (s.window c.window).slot.isWaiting = false) →
            (s.teardownBusy → t = { s with work := some .slice, sliceTurn := false }) ∧
            (s.teardownBusy = false → t = s))))

/-! ### Shared cells -/

/-- ALLOC_SHARED that finds a matching SHARED cell takes a reference to it, and posts its index, REUSED and its working value
(R23, R24, R25). -/
def Obligations.AllocSharedReuses : Prop :=
  ∀ (s : State) (c : ClientNo) (m : MapNo) (h : Held) (v : Colour) (n : CellNo), RunsClient s c m h →
    h.command = .allocShared → (s.map m).frozen = false → h.arg1.toNat ≤ 6 → colourArg h.arg0 = some v →
    s.findMatch m h.arg1.toNat v = some n →
    ∃ t, exec .allocShared s = .next t ∧ TakesReference s t c n .allocShared

/-- ALLOC_SHARED that is refused, in the order of R21 and R26: a frozen map; a coarseness above 6 or a value with either of bits
31:30 set; and where no SHARED cell matches, the quota, the table, the map's FREE cells and the queue. -/
def Obligations.AllocSharedRefuses : Prop :=
  ∀ (s : State) (c : ClientNo) (m : MapNo) (h : Held), RunsClient s c m h → h.command = .allocShared →
    ∃ t, exec .allocShared s = .next t ∧
      ((s.map m).frozen → Refuses s t c.window .allocShared .mapFrozen) ∧
      ((s.map m).frozen = false →
        (6 < h.arg1.toNat ∨ bits 31 30 h.arg0 ≠ 0 → Refuses s t c.window .allocShared .badArgument) ∧
        ∀ v, h.arg1.toNat ≤ 6 → colourArg h.arg0 = some v → s.findMatch m h.arg1.toNat v = none →
          ((s.session c).quota < (s.session c).charge + 1 → Refuses s t c.window .allocShared .quota) ∧
          ((s.session c).charge + 1 ≤ (s.session c).quota →
            ((∀ k, s.holding k ≠ none) → Refuses s t c.window .allocShared .holdingsFull) ∧
            ((∃ k, s.holding k = none) →
              ((∀ i, (s.cell (cellOf m i)).state ≠ .free) →
                ((∃ i, (s.cell (cellOf m i)).isCooling) → Refuses s t c.window .allocShared .coolingWait) ∧
                ((∀ i, (s.cell (cellOf m i)).isCooling = false) → Refuses s t c.window .allocShared .noSpace)) ∧
              ∀ i, (s.cell (cellOf m i)).state = .free → (∀ j < i, (s.cell (cellOf m j)).state ≠ .free) →
                (s.map m).mode = .deferred → s.queued (cellOf m i) = false → 128 ≤ s.queue.length →
                Refuses s t c.window .allocShared .queueFull)))

/-- ALLOC_SHARED that finds no matching SHARED cell and passes its checks takes the lowest FREE cell of the map (R27): the cell
is SHARED with one reference and the requested value exactly, with a new record in the lowest empty slot; the value is placed as
a single in a DEFERRED map (R28), and shown at once in a DIRECT one (R29). -/
def Obligations.AllocSharedMakes : Prop :=
  ∀ (s : State) (c : ClientNo) (m : MapNo) (h : Held) (v : Colour) (k : SlotNo) (i : Index), RunsClient s c m h →
    h.command = .allocShared → (s.map m).frozen = false → h.arg1.toNat ≤ 6 → colourArg h.arg0 = some v →
    s.findMatch m h.arg1.toNat v = none → (s.session c).charge + 1 ≤ (s.session c).quota → s.emptySlot = some k →
    (s.cell (cellOf m i)).state = .free → (∀ j < i, (s.cell (cellOf m j)).state ≠ .free) →
    ((s.map m).mode = .deferred → s.queued (cellOf m i) = true ∨ s.queue.length < 128) →
    ∃ t, exec .allocShared s = .next t ∧
      PostsAndSignals s t c .allocShared (.ok (field 7 0 i.val ||| flag 9 true) (colourWord v))
        ((s.session c).warnEvent (s.session c).owned ((s.session c).held + 1)) (s.highEvent (cellOf m i)) ∧
      t.cell (cellOf m i) = ((s.cell (cellOf m i)).given (s.map m).mode v).become (.shared 1) ∧
      KeepsOtherCells s t (cellOf m i) ∧
      t.queue = s.queueAfter (cellOf m i) none ∧
      t.holding k = some ⟨c, cellOf m i, 1⟩ ∧ KeepsOtherSlots s t k ∧
      t.session c = (s.session c).recount (s.session c).owned ((s.session c).held + 1) ∧ KeepsOtherSessions s t c ∧
      KeepsRest s t

/-- HOLD (R31): MAP_FROZEN, BAD_ARGUMENT and WRONG_STATE in that order, and for a SHARED cell the found branch of ALLOC_SHARED
exactly. -/
def Obligations.HoldTakesReference : Prop :=
  ∀ (s : State) (c : ClientNo) (m : MapNo) (h : Held), RunsClient s c m h → h.command = .hold →
    ∃ t, exec .hold s = .next t ∧
      ((s.map m).frozen → Refuses s t c.window .hold .mapFrozen) ∧
      ((s.map m).frozen = false →
        (255 < h.arg0.toNat → Refuses s t c.window .hold .badArgument) ∧
        ∀ i : Index, h.arg0.toNat = i.val →
          ((s.cell (cellOf m i)).isShared = false → Refuses s t c.window .hold .wrongState) ∧
          ((s.cell (cellOf m i)).isShared → TakesReference s t c (cellOf m i) .hold))

/-- FREE that is refused (R33): a frozen map, an index above 255, a SHARED cell the client has no record on, and a cell that is
neither SHARED nor the client's own. -/
def Obligations.FreeRefuses : Prop :=
  ∀ (s : State) (c : ClientNo) (m : MapNo) (h : Held), RunsClient s c m h → h.command = .free →
    ∃ t, exec .free s = .next t ∧
      ((s.map m).frozen → Refuses s t c.window .free .mapFrozen) ∧
      ((s.map m).frozen = false →
        (255 < h.arg0.toNat → Refuses s t c.window .free .badArgument) ∧
        ∀ i : Index, h.arg0.toNat = i.val →
          ((s.cell (cellOf m i)).isShared → s.findHolding c (cellOf m i) = none → Refuses s t c.window .free .notHeld) ∧
          ((s.cell (cellOf m i)).isShared = false → (s.cell (cellOf m i)).state ≠ .owned c →
            Refuses s t c.window .free .notOwner))

/-- The shared branch of FREE (R34): the record's count and the cell's reference count fall by 1; the record is removed, with its
unit of charge, where its count falls to 0, and the cell is released where no reference is left. -/
def Obligations.FreeShared : Prop :=
  ∀ (s : State) (c : ClientNo) (m : MapNo) (h : Held) (i : Index) (refs : Nat) (k : SlotNo) (r : Holding),
    RunsClient s c m h → h.command = .free → (s.map m).frozen = false → h.arg0.toNat = i.val →
    (s.cell (cellOf m i)).state = .shared refs → s.findHolding c (cellOf m i) = some k → s.holding k = some r → 1 ≤ r.count →
    ∃ t, exec .free s = .next t ∧
      Posts s t c.window .free (.ok (field 7 0 i.val) (field 10 0 (refs - 1))) 0 ∧
      t.holding k = (if r.count = 1 then none else some ⟨c, cellOf m i, r.count - 1⟩) ∧ KeepsOtherSlots s t k ∧
      t.cell (cellOf m i) =
        (s.cell (cellOf m i)).become (if refs ≤ 1 then releasedState s.cooling else .shared (refs - 1)) ∧
      KeepsOtherCells s t (cellOf m i) ∧
      t.queue = (if refs ≤ 1 then s.detached (· == cellOf m i) else s.queue) ∧
      t.session c =
        (if r.count = 1 then (s.session c).recount (s.session c).owned ((s.session c).held - 1) else s.session c) ∧
      KeepsOtherSessions s t c ∧ KeepsRest s t

/-- The private branch of FREE (R51): the cell is released, its entry leaves an open batch, and the charge falls by 1. -/
def Obligations.FreePrivate : Prop :=
  ∀ (s : State) (c : ClientNo) (m : MapNo) (h : Held) (i : Index), RunsClient s c m h → h.command = .free →
    (s.map m).frozen = false → h.arg0.toNat = i.val → (s.cell (cellOf m i)).state = .owned c →
    ∃ t, exec .free s = .next t ∧
      Posts s t c.window .free (.ok (field 7 0 i.val) 0) 0 ∧
      t.cell (cellOf m i) = (s.cell (cellOf m i)).become (releasedState s.cooling) ∧ KeepsOtherCells s t (cellOf m i) ∧
      t.queue = s.detached (· == cellOf m i) ∧
      t.session c = (s.session c).recount ((s.session c).owned - 1) (s.session c).held ∧ KeepsOtherSessions s t c ∧
      t.holdings = s.holdings ∧ KeepsRest s t

/-- PUBLISH that is refused, in the order of R35, with the duplicate check of R36, which posts the index of the SHARED cell of
equal working value. -/
def Obligations.PublishRefuses : Prop :=
  ∀ (s : State) (c : ClientNo) (m : MapNo) (h : Held), RunsClient s c m h → h.command = .publish →
    ∃ t, exec .publish s = .next t ∧
      ((s.map m).frozen → Refuses s t c.window .publish .mapFrozen) ∧
      ((s.map m).frozen = false →
        (255 < h.arg0.toNat → Refuses s t c.window .publish .badArgument) ∧
        ∀ i : Index, h.arg0.toNat = i.val →
          (∀ owner, (s.cell (cellOf m i)).state = .owned owner → owner ≠ c → Refuses s t c.window .publish .notOwner) ∧
          ((∀ owner, (s.cell (cellOf m i)).state ≠ .owned owner) → Refuses s t c.window .publish .wrongState) ∧
          ((s.cell (cellOf m i)).state = .owned c →
            (s.cellInOpenBatch (cellOf m i) → Refuses s t c.window .publish .wrongState) ∧
            (s.cellInOpenBatch (cellOf m i) = false →
              (∀ j : Index, (s.cell (cellOf m j)).isShared → (s.cell (cellOf m j)).working = (s.cell (cellOf m i)).working →
                (∀ j' < j, (s.cell (cellOf m j')).isShared → (s.cell (cellOf m j')).working ≠ (s.cell (cellOf m i)).working) →
                OnlyPosts s t c.window .publish ⟨.duplicate, field 7 0 j.val, 0⟩) ∧
              ((∀ j : Index, (s.cell (cellOf m j)).isShared → (s.cell (cellOf m j)).working ≠ (s.cell (cellOf m i)).working) →
                (∀ k, s.holding k ≠ none) → Refuses s t c.window .publish .holdingsFull))))

/-- PUBLISH whose checks pass (R37): the cell is SHARED with one reference, that of its former owner in a new record in the lowest
empty slot; one owned cell fewer and one record more leave the charge and the warning as they were, and nothing moves in the
queue. -/
def Obligations.PublishShares : Prop :=
  ∀ (s : State) (c : ClientNo) (m : MapNo) (h : Held) (i : Index) (k : SlotNo), RunsClient s c m h → h.command = .publish →
    (s.map m).frozen = false → h.arg0.toNat = i.val → (s.cell (cellOf m i)).state = .owned c →
    s.cellInOpenBatch (cellOf m i) = false →
    (∀ j : Index, (s.cell (cellOf m j)).isShared → (s.cell (cellOf m j)).working ≠ (s.cell (cellOf m i)).working) →
    s.emptySlot = some k → 1 ≤ (s.session c).owned →
    ∃ t, exec .publish s = .next t ∧
      Posts s t c.window .publish (.ok (field 7 0 i.val) 0) 0 ∧
      t.cell (cellOf m i) = (s.cell (cellOf m i)).become (.shared 1) ∧ KeepsOtherCells s t (cellOf m i) ∧
      t.holding k = some ⟨c, cellOf m i, 1⟩ ∧ KeepsOtherSlots s t k ∧
      t.session c = { s.session c with owned := (s.session c).owned - 1, held := (s.session c).held + 1 } ∧
      KeepsOtherSessions s t c ∧ t.queue = s.queue ∧ KeepsRest s t

/-! ### Private cells -/

/-- ALLOC_PRIVATE that is refused, in the order of R40, with COOLING_WAIT where a run would fit with the COOLING cells counted
as FREE, and NO_SPACE where none would (R42). -/
def Obligations.AllocPrivateRefuses : Prop :=
  ∀ (s : State) (c : ClientNo) (m : MapNo) (h : Held), RunsClient s c m h → h.command = .allocPrivate →
    ∃ t, exec .allocPrivate s = .next t ∧
      (h.arg0.toNat = 0 ∨ 64 < h.arg0.toNat ∨ h.arg1.toNat ∉ [1, 2, 4, 8, 16, 32, 64] →
        Refuses s t c.window .allocPrivate .badArgument) ∧
      (1 ≤ h.arg0.toNat → h.arg0.toNat ≤ 64 → h.arg1.toNat ∈ [1, 2, 4, 8, 16, 32, 64] →
        ((s.map m).frozen → Refuses s t c.window .allocPrivate .mapFrozen) ∧
        ((s.map m).frozen = false →
          ((s.session c).quota < (s.session c).charge + h.arg0.toNat → Refuses s t c.window .allocPrivate .quota) ∧
          ((s.session c).charge + h.arg0.toNat ≤ (s.session c).quota →
            (∀ i, ¬ s.RunFits m h.arg0.toNat h.arg1.toNat Cell.isFree i) →
            ((∃ i, s.RunFits m h.arg0.toNat h.arg1.toNat (fun x => x.isFree || x.isCooling) i) →
              Refuses s t c.window .allocPrivate .coolingWait) ∧
            ((∀ i, ¬ s.RunFits m h.arg0.toNat h.arg1.toNat (fun x => x.isFree || x.isCooling) i) →
              Refuses s t c.window .allocPrivate .noSpace))))

/-- ALLOC_PRIVATE whose checks pass makes every cell of the lowest run PRIVATE to the client, with values and entries kept, and
raises the charge by the count, with one warning judged on the whole (R41, R43, R44). -/
def Obligations.AllocPrivateTakes : Prop :=
  ∀ (s : State) (c : ClientNo) (m : MapNo) (h : Held) (first : Nat), RunsClient s c m h → h.command = .allocPrivate →
    1 ≤ h.arg0.toNat → h.arg0.toNat ≤ 64 → h.arg1.toNat ∈ [1, 2, 4, 8, 16, 32, 64] → (s.map m).frozen = false →
    (s.session c).charge + h.arg0.toNat ≤ (s.session c).quota →
    s.RunFits m h.arg0.toNat h.arg1.toNat Cell.isFree first →
    (∀ i < first, ¬ s.RunFits m h.arg0.toNat h.arg1.toNat Cell.isFree i) →
    ∃ t, exec .allocPrivate s = .next t ∧
      Posts s t c.window .allocPrivate (.ok (field 7 0 first) 0)
        ((s.session c).warnEvent ((s.session c).owned + h.arg0.toNat) (s.session c).held) ∧
      (∀ j : Index, first ≤ j.val → j.val < first + h.arg0.toNat →
        t.cell (cellOf m j) = (s.cell (cellOf m j)).become (.owned c)) ∧
      (∀ n, mapOf n ≠ m ∨ (indexOf n).val < first ∨ first + h.arg0.toNat ≤ (indexOf n).val → t.cell n = s.cell n) ∧
      t.session c = (s.session c).recount ((s.session c).owned + h.arg0.toNat) (s.session c).held ∧
      KeepsOtherSessions s t c ∧ t.queue = s.queue ∧ t.holdings = s.holdings ∧ KeepsRest s t

/-- STORE that is refused, in the order of R46, with the conditions of R48 and R49. -/
def Obligations.StoreRefuses : Prop :=
  ∀ (s : State) (c : ClientNo) (m : MapNo) (h : Held), RunsClient s c m h → h.command = .store →
    ∃ t, exec .store s = .next t ∧
      ((s.map m).frozen → Refuses s t c.window .store .mapFrozen) ∧
      ((s.map m).frozen = false →
        (255 < h.arg0.toNat → Refuses s t c.window .store .badArgument) ∧
        ∀ i : Index, h.arg0.toNat = i.val →
          ((∀ owner, (s.cell (cellOf m i)).state ≠ .owned owner) → Refuses s t c.window .store .wrongState) ∧
          (∀ owner, (s.cell (cellOf m i)).state = .owned owner → owner ≠ c → Refuses s t c.window .store .notOwner) ∧
          ((s.cell (cellOf m i)).state = .owned c →
            (bits 31 30 h.arg1 ≠ 0 → Refuses s t c.window .store .badArgument) ∧
            (bits 31 30 h.arg1 = 0 → (s.map m).mode = .deferred →
              (∀ k, (s.session c).openBatch = some k → (⟨cellOf m i, some ⟨c, k⟩⟩ : Entry) ∉ s.queue →
                32 ≤ s.batchCount ⟨c, k⟩ → Refuses s t c.window .store .batchLimit) ∧
              ((∀ k, (s.session c).openBatch = some k →
                  (⟨cellOf m i, some ⟨c, k⟩⟩ : Entry) ∈ s.queue ∨ s.batchCount ⟨c, k⟩ < 32) →
                s.queued (cellOf m i) = false → 128 ≤ s.queue.length → Refuses s t c.window .store .queueFull))))

/-- STORE whose checks pass: in a DIRECT map both values take the value given (R47); in a DEFERRED map the working value does,
and the cell's entry stands at the tail with the tag of the client's open batch, or none (R50). Nothing else changes but the
result posted, with QUEUE_HIGH in WS where the append calls for it (R93). -/
def Obligations.StoreSets : Prop :=
  ∀ (s : State) (c : ClientNo) (m : MapNo) (h : Held) (i : Index) (v : Colour), RunsClient s c m h → h.command = .store →
    (s.map m).frozen = false → h.arg0.toNat = i.val → (s.cell (cellOf m i)).state = .owned c → colourArg h.arg1 = some v →
    ((s.map m).mode = .deferred →
      (∀ k, (s.session c).openBatch = some k →
        (⟨cellOf m i, some ⟨c, k⟩⟩ : Entry) ∈ s.queue ∨ s.batchCount ⟨c, k⟩ < 32) ∧
      (s.queued (cellOf m i) = true ∨ s.queue.length < 128)) →
    ∃ t, exec .store s = .next t ∧
      PostsAndSignals s t c .store (.ok (field 7 0 i.val) (flag 0 (t.queued (cellOf m i)))) 0 (s.highEvent (cellOf m i)) ∧
      t.cell (cellOf m i) = (s.cell (cellOf m i)).given (s.map m).mode v ∧ KeepsOtherCells s t (cellOf m i) ∧
      t.queue = s.queueAfter (cellOf m i) ((s.session c).openBatch.map fun k => ⟨c, k⟩) ∧
      t.holdings = s.holdings ∧ t.sessions = s.sessions ∧ KeepsRest s t

/-- FREE_RUN: its checks in order, with the lowest failing index posted beside NOT_OWNER (R52); and where they pass, every cell
of the range released in one completion, the client's entries of the range out of its open batch, and the charge down by the
count (R53). -/
def Obligations.FreeRunGivesBack : Prop :=
  ∀ (s : State) (c : ClientNo) (m : MapNo) (h : Held), RunsClient s c m h → h.command = .freeRun →
    ∃ t, exec .freeRun s = .next t ∧
      ((s.map m).frozen → Refuses s t c.window .freeRun .mapFrozen) ∧
      ((s.map m).frozen = false →
        (h.arg1.toNat = 0 ∨ 64 < h.arg1.toNat ∨ 255 < h.arg0.toNat ∨ 256 < h.arg0.toNat + h.arg1.toNat →
          Refuses s t c.window .freeRun .badArgument) ∧
        (1 ≤ h.arg1.toNat → h.arg1.toNat ≤ 64 → h.arg0.toNat + h.arg1.toNat ≤ 256 →
          (∀ i : Index, h.arg0.toNat ≤ i.val → i.val < h.arg0.toNat + h.arg1.toNat →
            (s.cell (cellOf m i)).state ≠ .owned c →
            (∀ j < i, h.arg0.toNat ≤ j.val → (s.cell (cellOf m j)).state = .owned c) →
            OnlyPosts s t c.window .freeRun ⟨.notOwner, field 7 0 i.val, 0⟩) ∧
          ((∀ i : Index, h.arg0.toNat ≤ i.val → i.val < h.arg0.toNat + h.arg1.toNat →
              (s.cell (cellOf m i)).state = .owned c) →
            Posts s t c.window .freeRun (.ok (field 6 0 h.arg1.toNat) 0) 0 ∧
            (∀ n, t.cell n =
              if inRun m h.arg0.toNat h.arg1.toNat n then (s.cell n).become (releasedState s.cooling) else s.cell n) ∧
            t.queue = s.detached (inRun m h.arg0.toNat h.arg1.toNat) ∧
            t.session c = (s.session c).recount ((s.session c).owned - h.arg1.toNat) (s.session c).held ∧
            KeepsOtherSessions s t c ∧ t.holdings = s.holdings ∧ KeepsRest s t)))

/-- READ (R54): an index above 255 or a source above 1 is refused with BAD_ARGUMENT; else the chosen value is posted with the
cell's state, queued field and owner, in any state and in a frozen map too, and no record changes. -/
def Obligations.ReadReports : Prop :=
  ∀ (s : State) (c : ClientNo) (m : MapNo) (h : Held), RunsClient s c m h → h.command = .read →
    ∃ t, exec .read s = .next t ∧
      (255 < h.arg0.toNat ∨ 1 < h.arg1.toNat → Refuses s t c.window .read .badArgument) ∧
      ∀ i : Index, h.arg0.toNat = i.val → h.arg1.toNat ≤ 1 →
        OnlyPosts s t c.window .read
          (.ok (colourWord (if h.arg1 = 0 then (s.cell (cellOf m i)).working else (s.cell (cellOf m i)).visible))
            (field 2 0 (s.cell (cellOf m i)).state.code ||| flag 3 (s.queued (cellOf m i)) |||
              field 6 4 (s.cell (cellOf m i)).state.ownerField))

/-! ### Accounts and batches -/

/-- QUERY (R70): it makes no check, posts the seven values of the session record as they stand, and changes nothing. -/
def Obligations.QueryReports : Prop :=
  ∀ (s : State) (c : ClientNo) (m : MapNo) (h : Held), RunsClient s c m h → h.command = .query →
    ∃ t, exec .query s = .next t ∧
      OnlyPosts s t c.window .query
        (.ok
          (field 8 0 ((s.session c).owned + (s.session c).held) ||| field 17 9 (s.session c).quota |||
            field 26 18 (s.session c).warning)
          (field 9 0 (s.session c).held ||| field 18 10 (s.session c).owned |||
            field 26 19 ((s.session c).openBatch.getD 0) ||| field 28 27 m.val))

/-- BATCH_OPEN (R78): WRONG_STATE with a batch open or in a DIRECT map; else the batch opens with the first serial from the next
serial on, counting from 255 to 1, that no entry tagged with the client carries, and the next serial is the one after it. A
frozen map does not refuse it, and no cell, record or entry changes. -/
def Obligations.BatchOpensSerial : Prop :=
  ∀ (s : State) (c : ClientNo) (m : MapNo) (h : Held), RunsClient s c m h → h.command = .batchOpen →
    ∃ t, exec .batchOpen s = .next t ∧
      ((s.session c).openBatch ≠ none ∨ (s.map m).mode = .direct → Refuses s t c.window .batchOpen .wrongState) ∧
      ((s.session c).openBatch = none → (s.map m).mode = .deferred → s.queue.length ≤ 128 →
        1 ≤ (s.session c).nextSerial → (s.session c).nextSerial ≤ 255 →
        ∃ d ≤ 128,
          (∀ e ∈ s.queue, e.tag ≠ some ⟨c, serialFrom (s.session c).nextSerial d⟩) ∧
          (∀ j < d, ∃ e ∈ s.queue, e.tag = some ⟨c, serialFrom (s.session c).nextSerial j⟩) ∧
          Posts s t c.window .batchOpen (.ok (field 7 0 (serialFrom (s.session c).nextSerial d)) 0) 0 ∧
          t.session c =
            { s.session c with
              openBatch := some (serialFrom (s.session c).nextSerial d)
              nextSerial := serialFrom (s.session c).nextSerial (d + 1) } ∧
          KeepsOtherSessions s t c ∧ t.cells = s.cells ∧ t.holdings = s.holdings ∧ t.queue = s.queue ∧ KeepsRest s t)

/-- BATCH_CLOSE (R79): NO_BATCH where none is open; else the open batch becomes none, and its serial and entry count are posted.
No entry moves and no cell, holding or charge changes. -/
def Obligations.BatchCloses : Prop :=
  ∀ (s : State) (c : ClientNo) (m : MapNo) (h : Held), RunsClient s c m h → h.command = .batchClose →
    ∃ t, exec .batchClose s = .next t ∧
      ((s.session c).openBatch = none → Refuses s t c.window .batchClose .noBatch) ∧
      ∀ k, (s.session c).openBatch = some k →
        Posts s t c.window .batchClose (.ok (field 7 0 k) (field 5 0 (s.batchCount ⟨c, k⟩))) 0 ∧
        t.session c = { s.session c with openBatch := none } ∧ KeepsOtherSessions s t c ∧
        t.cells = s.cells ∧ t.holdings = s.holdings ∧ t.queue = s.queue ∧ KeepsRest s t

/-! ### Sessions -/

/-- CLIENT_OPEN: its checks in order (R114), and where they pass the session record, the window's slot and event sets as R115
sets them, with the argument words and posted result of the window kept. -/
def Obligations.ClientOpens : Prop :=
  ∀ (s : State) (h : Held), RunsSupervisor s h → h.command = .clientOpen →
    ∃ t, exec .clientOpen s = .next t ∧
      (7 < h.arg0.toNat → Refuses s t .ws .clientOpen .badArgument) ∧
      ∀ c : ClientNo, h.arg0.toNat = c.val →
        ((s.session c).state ≠ .closed → Refuses s t .ws .clientOpen .wrongState) ∧
        ((s.session c).state = .closed →
          (3 < bits 7 0 h.arg1 ∨ 7 < bits 15 8 h.arg1 ∨ 256 < bits 15 0 h.arg2 ∨ 256 < bits 31 16 h.arg2 →
            Refuses s t .ws .clientOpen .badArgument) ∧
          ∀ (m : MapNo) (b : MasterNo), bits 7 0 h.arg1 = m.val → bits 15 8 h.arg1 = b.val → bits 15 0 h.arg2 ≤ 256 →
            bits 31 16 h.arg2 ≤ 256 →
            t.session c =
              ⟨.opened m b, bits 15 0 h.arg2, bits 31 16 h.arg2, decide (bits 31 16 h.arg2 ≠ 0), 0, 0, none, 1⟩ ∧
            KeepsOtherSessions s t c ∧
            t.window c.window =
              { s.window c.window with slot := .empty, overrun := false, pending := 0, enabled := 0 } ∧
            t.window .ws = (s.window .ws).completed .clientOpen (.ok (field 2 0 c.val) (field 1 0 m.val)) 0 ∧
            (∀ w, w ≠ c.window → w ≠ .ws → t.window w = s.window w) ∧
            t.work = none ∧ t.cells = s.cells ∧ t.holdings = s.holdings ∧ t.queue = s.queue ∧ KeepsRest s t)

/-- CLIENT_QUOTA (R117): its checks in order, and where they pass the quota, the warning level and the armed flag take their new
values, with no QUOTA_WARN, and the charge is posted. -/
def Obligations.ClientQuotaSets : Prop :=
  ∀ (s : State) (h : Held), RunsSupervisor s h → h.command = .clientQuota →
    ∃ t, exec .clientQuota s = .next t ∧
      (7 < h.arg0.toNat → Refuses s t .ws .clientQuota .badArgument) ∧
      ∀ c : ClientNo, h.arg0.toNat = c.val →
        ((s.session c).state.isOpen = false → Refuses s t .ws .clientQuota .wrongState) ∧
        ((s.session c).state.isOpen →
          (256 < h.arg1.toNat ∨ 256 < h.arg2.toNat ∨ h.arg1.toNat < (s.session c).charge →
            Refuses s t .ws .clientQuota .badArgument) ∧
          (h.arg1.toNat ≤ 256 → h.arg2.toNat ≤ 256 → (s.session c).charge ≤ h.arg1.toNat →
            Posts s t .ws .clientQuota (.ok (field 2 0 c.val) (field 8 0 (s.session c).charge)) 0 ∧
            t.session c =
              { s.session c with
                quota := h.arg1.toNat
                warning := h.arg2.toNat
                armed := decide (h.arg2.toNat ≠ 0 ∧ (s.session c).charge < h.arg2.toNat) } ∧
            KeepsOtherSessions s t c ∧ t.cells = s.cells ∧ t.holdings = s.holdings ∧ t.queue = s.queue ∧ KeepsRest s t))

/-- CLIENT_CLOSE: its checks in order (R118), and where they pass the session CLOSING with its batch closed, a WAITING command
answered CLOSED, REVOKED pending, and the teardown pending with the slice turn (R119). No cell is released, no record removed and
no entry moved. -/
def Obligations.ClientCloses : Prop :=
  ∀ (s : State) (h : Held), RunsSupervisor s h → h.command = .clientClose →
    ∃ t, exec .clientClose s = .next t ∧
      (7 < h.arg0.toNat → Refuses s t .ws .clientClose .badArgument) ∧
      ∀ c : ClientNo, h.arg0.toNat = c.val →
        ((s.session c).state.isOpen = false → Refuses s t .ws .clientClose .wrongState) ∧
        ∀ (m : MapNo) (b : MasterNo), (s.session c).state = .opened m b →
          (s.teardownBusy → Refuses s t .ws .clientClose .teardownBusy) ∧
          (s.teardownBusy = false →
            t.session c = { s.session c with state := .closing m b, openBatch := none } ∧ KeepsOtherSessions s t c ∧
            (∀ x, (s.window c.window).slot = .waiting x →
              t.window c.window = (s.window c.window).completed x.command (.refusal .closed) Event.revoked.bit) ∧
            ((s.window c.window).slot.isWaiting = false →
              t.window c.window = (s.window c.window).signalled Event.revoked.bit) ∧
            t.window .ws =
              (s.window .ws).completed .clientClose (.ok (field 2 0 c.val) (field 8 0 (s.session c).charge)) 0 ∧
            (∀ w, w ≠ c.window → w ≠ .ws → t.window w = s.window w) ∧
            t = { s with
                  sessions := t.sessions
                  windows := t.windows
                  work := none
                  teardownBusy := true
                  teardownClient := c
                  sliceTurn := true })

/-- A slice that finds items: the first 16 of the client's records, in slot order, and then of its cells, in index order, are
taken (R122), with the effects of R123.
The records leave their slots with their counts off the cells' references; each cell given back, and each cell with no reference
left, is released; and the counts fall by what was taken. No window changes, and the engine is free. -/
def Obligations.SliceTakesItems : Prop :=
  ∀ (s : State) (c : ClientNo), RunsSlice s c → s.sliceRecords c ≠ [] ∨ s.sliceCells c ≠ [] →
    SliceChooses s c ∧
    ∃ t, exec .teardownSlice s = .next t ∧
      (∀ k, t.holding k = if k ∈ s.sliceRecords c then none else s.holding k) ∧
      (∀ n, t.cell n =
        if s.sliceReleases c n then (s.cell n).become (releasedState s.cooling)
        else if s.sliceNames c n then (s.cell n).become (.shared (s.references n - s.sliceCountOn c n))
        else s.cell n) ∧
      t.queue = s.detached (s.sliceReleases c) ∧
      t.session c =
        (s.session c).recount ((s.session c).owned - (s.sliceCells c).length)
          ((s.session c).held - (s.sliceRecords c).length) ∧
      KeepsOtherSessions s t c ∧ t.windows = s.windows ∧ t.work = none ∧ KeepsRest s t

/-- A slice that finds no item ends the teardown (R124): the session CLOSED and unbound with quota and warning 0, the teardown
none with its client kept, and CLOSE_DONE in WS. The client's window is left as it stands. -/
def Obligations.SliceEndsTeardown : Prop :=
  ∀ (s : State) (c : ClientNo), RunsSlice s c →
    (∀ k r, s.holding k = some r → r.client ≠ c) → (∀ n, (s.cell n).state ≠ .owned c) →
    ∃ t, exec .teardownSlice s = .next t ∧
      t.session c = { s.session c with state := .closed, quota := 0, warning := 0, armed := false } ∧
      KeepsOtherSessions s t c ∧ t.window .ws = (s.window .ws).signalled Event.closeDone.bit ∧
      (∀ w, w ≠ .ws → t.window w = s.window w) ∧
      t = { s with sessions := t.sessions, windows := t.windows, work := none, teardownBusy := false }

/-! ### The supervisor's commands -/

/-- FIX: its checks in order (R131), and where they pass the cell FIXED with the given value, placed as a single in a DEFERRED map
and shown at once in a DIRECT one (R132). -/
def Obligations.FixPlaces : Prop :=
  ∀ (s : State) (h : Held), RunsSupervisor s h → h.command = .fix →
    ∃ t, exec .fix s = .next t ∧
      (1023 < h.arg0.toNat ∨ bits 31 30 h.arg1 ≠ 0 → Refuses s t .ws .fix .badArgument) ∧
      ∀ (n : CellNo) (v : Colour), h.arg0.toNat = n.val → colourArg h.arg1 = some v →
        ((s.cell n).state ≠ .free → (s.cell n).state ≠ .fixed → Refuses s t .ws .fix .wrongState) ∧
        ((s.cell n).state = .free ∨ (s.cell n).state = .fixed →
          ((s.map (mapOf n)).mode = .deferred → s.queued n = false → 128 ≤ s.queue.length →
            Refuses s t .ws .fix .queueFull) ∧
          (((s.map (mapOf n)).mode = .deferred → s.queued n = true ∨ s.queue.length < 128) →
            Posts s t .ws .fix (.ok (field 9 0 n.val) (flag 0 (t.queued n))) (s.highEvent n) ∧
            t.cell n = ((s.cell n).given (s.map (mapOf n)).mode v).become .fixed ∧ KeepsOtherCells s t n ∧
            t.queue = s.queueAfter n none ∧ t.holdings = s.holdings ∧ t.sessions = s.sessions ∧ KeepsRest s t))

/-- UNFIX (R133): BAD_ARGUMENT above 1023, WRONG_STATE for a cell that is not FIXED, and else the release procedure, with the
state after the command posted. -/
def Obligations.UnfixReleases : Prop :=
  ∀ (s : State) (h : Held), RunsSupervisor s h → h.command = .unfix →
    ∃ t, exec .unfix s = .next t ∧
      (1023 < h.arg0.toNat → Refuses s t .ws .unfix .badArgument) ∧
      ∀ n : CellNo, h.arg0.toNat = n.val →
        ((s.cell n).state ≠ .fixed → Refuses s t .ws .unfix .wrongState) ∧
        ((s.cell n).state = .fixed →
          Posts s t .ws .unfix (.ok (field 9 0 n.val) (field 2 0 (if s.cooling = 0 then 0 else 4))) 0 ∧
          t.cell n = (s.cell n).become (if s.cooling = 0 then .free else .cooling s.cooling) ∧ KeepsOtherCells s t n ∧
          t.queue = s.detached (· == n) ∧ t.holdings = s.holdings ∧ t.sessions = s.sessions ∧ KeepsRest s t)

/-- MAP_RESET: BAD_ARGUMENT above 3, and else the records of the map as R134 leaves them, and every client bound to it as R135
does; the other maps, and the mode and freeze of this one, are untouched. -/
def Obligations.MapResetClears : Prop :=
  ∀ (s : State) (h : Held), RunsSupervisor s h → h.command = .mapReset →
    ∃ t, exec .mapReset s = .next t ∧
      (3 < h.arg0.toNat → Refuses s t .ws .mapReset .badArgument) ∧
      ∀ m : MapNo, h.arg0.toNat = m.val →
        t.queue = s.queue.filter (fun e => mapOf e.cell != m) ∧
        (∀ n, mapOf n = m → t.cell n =
          ⟨if (s.cell n).state = .fixed then .fixed else .free,
            if s.queued n then (s.cell n).visible else (s.cell n).working, (s.cell n).visible⟩) ∧
        (QueueHolds s → ∀ n, mapOf n = m → t.queued n = false ∧ (t.cell n).working = (t.cell n).visible) ∧
        (∀ n, mapOf n ≠ m → t.cell n = s.cell n) ∧
        (∀ k r, s.holding k = some r → t.holding k = if mapOf r.cell = m then none else some r) ∧
        (∀ k, s.holding k = none → t.holding k = none) ∧
        (∀ c, (s.session c).state.map? = some m →
          t.session c =
            { s.session c with
              owned := 0
              held := 0
              openBatch := none
              armed := (s.session c).armed || decide ((s.session c).warning ≠ 0) } ∧
          t.window c.window = (s.window c.window).signalled Event.mapLost.bit) ∧
        (∀ c, (s.session c).state.map? ≠ some m → t.session c = s.session c ∧ t.window c.window = s.window c.window) ∧
        t.window .ws =
          (s.window .ws).completed .mapReset
            (.ok (field 1 0 m.val) (field 7 0 (s.queue.countP fun e => mapOf e.cell == m))) 0 ∧
        t.work = none ∧ KeepsRest s t

/-- MAP_MODE (R137): its checks in order, and where they pass the map's mode and freeze take the values given; a change from
DEFERRED to DIRECT drains the map in the same event, and any other change moves nothing. -/
def Obligations.MapModeSets : Prop :=
  ∀ (s : State) (h : Held), RunsSupervisor s h → h.command = .mapMode →
    ∃ t, exec .mapMode s = .next t ∧
      (3 < h.arg0.toNat ∨ 1 < h.arg1.toNat ∨ 1 < h.arg2.toNat → Refuses s t .ws .mapMode .badArgument) ∧
      ∀ (m : MapNo) (mode : MapMode) (frozen : Bool), h.arg0.toNat = m.val → h.arg1.toNat = mode.code →
        h.arg2.toNat = frozen.toNat →
        ((s.map m).mode = .deferred → mode = .direct →
          (∃ c, (s.session c).state.map? = some m ∧ (s.session c).openBatch ≠ none) →
          Refuses s t .ws .mapMode .wrongState) ∧
        (((s.map m).mode = .deferred → mode = .direct →
            ∀ c, (s.session c).state.map? = some m → (s.session c).openBatch = none) →
          ((s.map m).mode = .deferred ∧ mode = .direct →
            Shows s t (s.drains m) ∧
            Posts s t .ws .mapMode
              (.ok (field 1 0 m.val ||| field 8 8 mode.code ||| flag 9 frozen) (field 7 0 (s.queue.countP (s.drains m)))) 0) ∧
          (¬ ((s.map m).mode = .deferred ∧ mode = .direct) →
            t.cells = s.cells ∧ t.queue = s.queue ∧
            Posts s t .ws .mapMode (.ok (field 1 0 m.val ||| field 8 8 mode.code ||| flag 9 frozen) 0) 0) ∧
          t.map m = ⟨mode, frozen⟩ ∧ (∀ m', m' ≠ m → t.map m' = s.map m') ∧
          t = { s with cells := t.cells, maps := t.maps, queue := t.queue, windows := t.windows, work := none })

/-- FLUSH (R139): BAD_ARGUMENT above 3, and else the drain of the map with every COOLING cell of it FREE, its values kept; the
entries moved and the cells made FREE are posted. -/
def Obligations.FlushDrains : Prop :=
  ∀ (s : State) (h : Held), RunsSupervisor s h → h.command = .flush →
    ∃ t, exec .flush s = .next t ∧
      (3 < h.arg0.toNat → Refuses s t .ws .flush .badArgument) ∧
      ∀ m : MapNo, h.arg0.toNat = m.val →
        t.queue = s.queue.filter (fun e => !s.drains m e) ∧
        (∀ n, t.cell n =
          ⟨if mapOf n = m ∧ (s.cell n).isCooling then .free else (s.cell n).state, (s.cell n).working,
            if s.queue.any (fun e => e.cell == n && s.drains m e) then (s.cell n).working else (s.cell n).visible⟩) ∧
        Posts s t .ws .flush
          (.ok (field 1 0 m.val)
            (field 7 0 (s.queue.countP (s.drains m)) |||
              field 24 16 ((List.finRange 256).countP fun i => (s.cell (cellOf m i)).isCooling))) 0 ∧
        t.holdings = s.holdings ∧ t.sessions = s.sessions ∧ KeepsRest s t

/-- SET_COMMIT (R140): BAD_ARGUMENT for a budget outside 32 to 128 or a setting above 3, and else both take the given values; a
cell already COOLING keeps its count, and no record changes. -/
def Obligations.SetCommitSets : Prop :=
  ∀ (s : State) (h : Held), RunsSupervisor s h → h.command = .setCommit →
    ∃ t, exec .setCommit s = .next t ∧
      (h.arg0.toNat < 32 ∨ 128 < h.arg0.toNat ∨ 3 < h.arg1.toNat → Refuses s t .ws .setCommit .badArgument) ∧
      (32 ≤ h.arg0.toNat → h.arg0.toNat ≤ 128 → h.arg1.toNat ≤ 3 →
        t.budget = h.arg0.toNat ∧ t.cooling = h.arg1.toNat ∧
        Posts s t .ws .setCommit (.ok (field 7 0 h.arg0.toNat) (field 1 0 h.arg1.toNat)) 0 ∧
        t = { s with budget := t.budget, cooling := t.cooling, windows := t.windows, work := none })

/-! ### Frame boundaries and lookups -/

/-- A frame boundary (R85, R13): where an edge of BLANK is taken, every entry that the walk takes is shown and leaves the queue,
and every COOLING cell counts down, in one event; where none is, no record changes. The watch (R151) times a low interval from
the most recent fall or the release of RESET; a rise after less than 40 ns low gives no edge before the next fall, and one that
has not yet stayed high for 40 ns is timed on. That a row carries one stretch of the line is the model's choice
(notes/assumptions/7.md). -/
def Obligations.FrameBoundary : Prop :=
  ∀ (s : State) (low high : Nat), s.resetHeld = false →
    ∃ t, exec (.blankStartEdge low high) s = .next t ∧
      (s.EdgeIn low high →
        t = { s with cells := t.cells, queue := t.queue, blank := .settled } ∧
        t.queue = s.queue.filter (fun e => !s.committed.has e) ∧
        ∀ n, (t.cell n).working = (s.cell n).working ∧
          ((∃ e ∈ s.queue, e.cell = n ∧ s.committed.has e) → (t.cell n).visible = (s.cell n).working) ∧
          ((∀ e ∈ s.queue, e.cell = n → ¬ s.committed.has e) → (t.cell n).visible = (s.cell n).visible) ∧
          (∀ k, (s.cell n).state = .cooling k → (t.cell n).state = if k ≤ 1 then .free else .cooling (k - 1)) ∧
          ((s.cell n).isCooling = false → (t.cell n).state = (s.cell n).state)) ∧
      (¬ s.EdgeIn low high →
        t = { s with blank := t.blank } ∧
        (high = 0 → t.blank = if low = 0 then s.blank else .low (s.lowTime low)) ∧
        (0 < high → (0 < low ∨ ∃ elapsed, s.blank = .low elapsed) →
          t.blank = if s.lowTime low < 40000 then .settled else .rising high) ∧
        (0 < high → low = 0 →
          (∀ elapsed, s.blank = .rising elapsed → t.blank = .rising (elapsed + high)) ∧
          (s.blank = .settled → t.blank = .settled)))

/-- What the commit walk takes (R84): exactly the entries outside open batches whose item, with every item before it, fits in the
budget, since the walk stops at the first item that does not fit. So it takes at most the budget in entries, and always takes
the first entry that is not in an open batch. -/
def Obligations.WalkTakes : Prop :=
  (∀ s : State, QueueHolds s → ∀ e ∈ s.queue,
    (s.committed.has e = true ↔ s.inOpenBatch e = false ∧ s.costThrough e ≤ s.budget)) ∧
  (∀ s : State, QueueHolds s → s.queue.countP (fun e => s.committed.has e) ≤ s.budget) ∧
  ∀ (s : State) (e : Entry), QueueHolds s → RangesHold s → s.queue.find? (fun e => !s.inOpenBatch e) = some e →
    s.committed.has e = true

/-- A batch moves whole (R76): at a frame boundary and at the drain of a FLUSH or MAP_MODE, the entries of a batch stay in the
queue together or leave it together, and they stay while the batch is open. -/
def Obligations.BatchesMoveWhole : Prop :=
  ∀ (i : Instr) (s t : State), QueueHolds s →
    ((∃ low high, i = .blankStartEdge low high) ∨ i = .flush ∨ i = .mapMode) → exec i s = .next t →
    ∀ tag : Tag, (∀ e ∈ s.queue, e.tag = some tag → e ∈ t.queue) ∨
      (s.batchOpen tag = false ∧ ∀ e ∈ s.queue, e.tag = some tag → e ∉ t.queue)

/-- The countdown event (R13): the count of every COOLING cell of all four maps falls by 1, and a cell whose count reaches 0 is
FREE, its values kept; no other cell and nothing else changes. -/
def Obligations.CountdownLowers : Prop :=
  ∀ s : State, s.resetHeld = false →
    ∃ t, exec .coolingExpiry s = .next t ∧ t = { s with cells := t.cells } ∧
      ∀ n, (∀ k, (s.cell n).state = .cooling k →
          t.cell n = (s.cell n).become (if k ≤ 1 then .free else .cooling (k - 1))) ∧
        ((s.cell n).isCooling = false → t.cell n = s.cell n)

/-- A lookup returns the visible value of the named cell and changes nothing else (R147). A rise after less than 2.5 ns low, or
within 8.0 ns of the last lookup's, is none (R148). -/
def Obligations.LookupReturns : Prop :=
  ∀ (s : State) (m : MapNo) (i : Index) (low period : Nat), s.resetHeld = false →
    (2500 ≤ low → 8000 ≤ period →
      exec (.lookup m i low period) s = .next { s with scanResult := (s.cell (cellOf m i)).visible }) ∧
    (low < 2500 ∨ period < 8000 → exec (.lookup m i low period) s = .next s)

/-! ### Power-on reset -/

/-- RESET held and released (R146). The release gives every block its power-on state, with WS bound to the master on SUPM. While
the pin is held, nothing but its release is taken: no access, edge, lookup or completion has an effect. That the held part is
already in its power-on state is an inference of the model (notes/assumptions/6.md). -/
def Obligations.ResetHeldAndReleased : Prop :=
  (∀ s : State, ∃ t, exec .powerOnReset s = .next t ∧ t.resetHeld = true ∧ t.scol = 0 ∧ t.readData = none ∧
    t.hostReady = false ∧ (∀ w, t.notify w = false) ∧
    ∀ supm, exec (.resetRelease supm) t = .next { State.powerOn supm with pending := s.pending }) ∧
  (∀ (s : State) (supm : MasterNo), s.resetHeld = true →
    exec (.resetRelease supm) s = .next { State.powerOn supm with pending := s.pending }) ∧
  ∀ (s : State) (i : Instr), s.resetHeld = true → i ≠ .powerOnReset → (∀ supm, i ≠ .resetRelease supm) →
    exec i s = .next s

/-- The power-on state, block by block (R17, R2, R57, R72, R82, R94, R103, R108, R112, R121, R128, R129, R141, R147, R151). -/
def Obligations.PowerOnState : Prop :=
  ∀ supm : MasterNo,
    (∀ n, (State.powerOn supm).cell n = ⟨.free, ⟨0, 0, 0⟩, ⟨0, 0, 0⟩⟩) ∧
    (∀ m, (State.powerOn supm).map m = ⟨.deferred, false⟩) ∧
    (∀ k, (State.powerOn supm).holding k = none) ∧
    (∀ c, (State.powerOn supm).session c = ⟨.closed, 0, 0, false, 0, 0, none, 1⟩) ∧
    (∀ w, (State.powerOn supm).window w = ⟨.empty, false, 0, 0, 0, ⟨.ok, 0, 0, 0⟩, 0, 0⟩) ∧
    (State.powerOn supm).queue = [] ∧ (State.powerOn supm).budget = 64 ∧ (State.powerOn supm).cooling = 1 ∧
    (State.powerOn supm).work = none ∧ (State.powerOn supm).lastServed = 7 ∧ (State.powerOn supm).sliceTurn = false ∧
    (State.powerOn supm).teardownBusy = false ∧ (State.powerOn supm).teardownClient = 0 ∧
    (State.powerOn supm).supMaster = supm ∧ (State.powerOn supm).fault = none ∧ (State.powerOn supm).more = false ∧
    (State.powerOn supm).cursor = ⟨.cells, 0, .first⟩ ∧ (State.powerOn supm).scanResult = ⟨0, 0, 0⟩ ∧
    (State.powerOn supm).blank = .low 0

/-! ### The host port -/

/-- Permitted writes to EV_PEND and EV_EN (R109): EV_PEND loses the events written as 1, and EV_EN holds those written as 1. No
other set, word or window changes. -/
def Obligations.EventWrites : Prop :=
  ∀ (s : State) (w : WindowNo) (b : MasterNo) (data : Word), s.resetHeld = false → ¬ s.IsStranger w b →
    (∃ t, exec (.evPendWrite w b data) s = .next t ∧ t = s.setWindow w { s.window w with pending := (t.window w).pending } ∧
      ∀ j < 4, (t.window w).pending.getLsbD j = ((s.window w).pending.getLsbD j && !data.getLsbD j)) ∧
    ∃ t, exec (.evEnWrite w b data) s = .next t ∧ t = s.setWindow w { s.window w with enabled := (t.window w).enabled } ∧
      ∀ j < 4, (t.window w).enabled.getLsbD j = data.getLsbD j

/-- A write to FAULT by the master of WS empties the fault record and clears MORE, whatever is written; a denied one changes
neither and is itself reported; and a write and a report leave the record as R130 states of each order. -/
def Obligations.FaultWriteEmpties : Prop :=
  ∀ (s : State) (b : MasterNo) (data : Word), s.resetHeld = false →
    (b = s.supMaster → exec (.faultWrite b data) s = .next { s with fault := none, more := false }) ∧
    (b ≠ s.supMaster →
      ∃ t, exec (.faultWrite b data) s = .next t ∧
        (s.fault = none → t.fault = some ⟨.ws, b, 0x9, true⟩ ∧ t.more = s.more) ∧
        (s.fault ≠ none → t.fault = s.fault ∧ t.more = true)) ∧
    ∀ (k : WindowField) (w : WindowNo) (x : MasterNo) (offset : Offset) (a : Access), b = s.supMaster → k.val = w.val →
      s.IsStranger w x →
      (∃ t, exec (.deniedAccess k x offset a) { s with fault := none, more := false } = .next t ∧
        t.fault = some ⟨w, x, offset, accessWrites a⟩ ∧ t.more = false) ∧
      ∃ t u, exec (.deniedAccess k x offset a) s = .next t ∧ exec (.faultWrite b data) t = .next u ∧
        u.fault = none ∧ u.more = false ∧ Event.isIn .accessDenied (u.window .ws).pending = true

/-- A permitted write to INSP_SEL (R141): it sets the table and the position, a position beyond the last of the table as 0, sets
the word index to 0 and discards the capture; one that names no table leaves the cursor unchanged. -/
def Obligations.InspSelSelects : Prop :=
  ∀ (s : State) (b : MasterNo) (data : Word), s.resetHeld = false → b = s.supMaster →
    ∃ t, exec (.inspSelWrite b data) s = .next t ∧ t = { s with cursor := t.cursor } ∧
      (∀ table : InspTable, bits 1 0 data = table.number →
        t.cursor.table = table ∧ t.cursor.word = .first ∧
        t.cursor.position.val = if bits 25 16 data < table.size then bits 25 16 data else 0) ∧
      (bits 1 0 data = 3 → t.cursor = s.cursor)

/-- A permitted read of INSP_DATA (R142): the three words of a cell's record come from one capture, made at the first; a word of
HOLDINGS or QUEUE is that of the record as it stands; and the position advances, from the last of the table to 0. Each word has
the fields of R160. -/
def Obligations.InspDataReads : Prop :=
  ∀ (s : State) (b : MasterNo), s.resetHeld = false → b = s.supMaster →
    ∃ t, exec (.inspDataRead b) s = .next t ∧ t = { s with cursor := t.cursor, readData := t.readData } ∧
      t.cursor.table = s.cursor.table ∧
      (s.cursor.table = .cells → s.cursor.word = .first →
        ∃ k, SpellsCell s s.cursor.position k ∧ t.readData = some k.word0 ∧ t.cursor.position = s.cursor.position ∧
          t.cursor.word = .second k) ∧
      (∀ k, s.cursor.table = .cells → s.cursor.word = .second k →
        t.readData = some k.word1 ∧ t.cursor.position = s.cursor.position ∧ t.cursor.word = .third k) ∧
      (∀ k, s.cursor.table = .cells → s.cursor.word = .third k →
        t.readData = some k.word2 ∧ t.cursor.word = .first ∧
        t.cursor.position.val = if s.cursor.position.val = 1023 then 0 else s.cursor.position.val + 1) ∧
      (∀ k : SlotNo, s.cursor.table = .holdings → s.cursor.position.val = k.val →
        (∃ v, SpellsHolding (s.holding k) v ∧ t.readData = some v) ∧ t.cursor.word = .first ∧
        t.cursor.position.val = if k.val = 511 then 0 else k.val + 1) ∧
      (s.cursor.table = .queue → s.cursor.position.val < 128 →
        (∃ v, SpellsEntry s s.cursor.position.val v ∧ t.readData = some v) ∧ t.cursor.word = .first ∧
        t.cursor.position.val = if s.cursor.position.val = 127 then 0 else s.cursor.position.val + 1)

/-- A denied access, by whatever row it is made (R101, R129): no window changes but for ACCESS_DENIED in WS, the report fills an
empty fault record and else sets MORE, and a read returns 0. -/
def Obligations.DenialIsReported : Prop :=
  ∀ (s : State) (i : Instr) (w : WindowNo) (b : MasterNo) (offset : Offset) (a : Access), s.resetHeld = false →
    accessOf i = some (w, b, offset, a) → s.IsStranger w b →
    ∃ t, exec i s = .next t ∧
      t = { s.setWindow .ws ((s.window .ws).signalled Event.accessDenied.bit) with
            fault := t.fault
            more := t.more
            readData := t.readData } ∧
      (s.fault = none → t.fault = some ⟨w, b, offset, accessWrites a⟩ ∧ t.more = s.more) ∧
      (s.fault ≠ none → t.fault = s.fault ∧ t.more = true) ∧
      (a = .read → t.readData = some 0) ∧ (a ≠ .read → t.readData = s.readData)

/-- A permitted write to a word that has no row of its own (R99, R154): an argument word takes the word in any slot state, with
the held command as it was, and a write to a read-only word, to an offset with no word, or to an address that names no window
has no effect. -/
def Obligations.RegisterWriteTakes : Prop :=
  ∀ (s : State) (addr : HostAddr) (b : MasterNo) (data : Word), s.resetHeld = false →
    (Instr.registerWrite addr b data).wellFormed = true →
    (∀ w : WindowNo, addr.toNat / 16 = w.val → ¬ s.IsStranger w b →
      (addr.toNat % 16 = 1 →
        exec (.registerWrite addr b data) s = .next (s.setWindow w { s.window w with arg0 := data })) ∧
      (addr.toNat % 16 = 2 →
        exec (.registerWrite addr b data) s = .next (s.setWindow w { s.window w with arg1 := data })) ∧
      (addr.toNat % 16 = 3 →
        exec (.registerWrite addr b data) s = .next (s.setWindow w { s.window w with arg2 := data })) ∧
      (4 ≤ addr.toNat % 16 → exec (.registerWrite addr b data) s = .next s)) ∧
    (9 ≤ addr.toNat / 16 → exec (.registerWrite addr b data) s = .next s)

/-- What a permitted read returns on HD (R94, R99, R121, R129, R141, R154, R156, R159); it changes nothing else. A read of an
address that names no window returns 0 to any master, with no denial (R154). A read of INSP_DATA has a row of its own. That
DENIED_ACCESS carries a read that is not denied is the model's choice (notes/assumptions/9.md). -/
def Obligations.WordsRead : Prop :=
  ∀ (s : State) (k : WindowField) (b : MasterNo) (offset : Offset), s.resetHeld = false →
    (9 ≤ k.val → exec (.deniedAccess k b offset .read) s = .next { s with readData := some 0 }) ∧
    ∀ w : WindowNo, k.val = w.val → ¬ s.IsStranger w b → ¬ (w = .ws ∧ offset.val = 0xB) →
    ∃ v : Word, exec (.deniedAccess k b offset .read) s = .next { s with readData := some v } ∧
      (offset.val = 0x0 → v.toNat = (s.window w).posted.command.toNat) ∧
      (offset.val = 0x1 → v = (s.window w).arg0) ∧ (offset.val = 0x2 → v = (s.window w).arg1) ∧
      (offset.val = 0x3 → v = (s.window w).arg2) ∧ (offset.val = 0x4 → v = (s.window w).posted.res0) ∧
      (offset.val = 0x5 → v = (s.window w).posted.res1) ∧
      (offset.val = 0x6 →
        bits 1 0 v = (s.window w).slot.code ∧ bits 2 2 v = (s.window w).overrun.toNat ∧ bits 7 3 v = 0 ∧
        bits 12 8 v = (s.window w).posted.result.number ∧ bits 15 13 v = 0 ∧
        bits 23 16 v = (s.window w).posted.command.toNat ∧ bits 31 24 v = 0) ∧
      (offset.val = 0x7 → v.toNat = (s.window w).pending.toNat) ∧
      (offset.val = 0x8 → v.toNat = (s.window w).enabled.toNat) ∧
      (w = .ws → offset.val = 0x9 →
        bits 29 12 v = 0 ∧ bits 30 30 v = s.more.toNat ∧
        (s.fault = none → bits 11 0 v = 0 ∧ bits 31 31 v = 0) ∧
        ∀ r, s.fault = some r →
          bits 3 0 v = r.offset.val ∧ bits 7 4 v = r.window.val ∧ bits 10 8 v = r.master.val ∧
          bits 11 11 v = r.write.toNat ∧ bits 31 31 v = 1) ∧
      (w = .ws → offset.val = 0xA →
        bits 1 0 v = s.cursor.table.number ∧ bits 15 2 v = 0 ∧ bits 25 16 v = s.cursor.position.val ∧
        bits 27 26 v = 0 ∧ bits 29 28 v = s.cursor.word.index ∧ bits 31 30 v = 0) ∧
      (w = .ws → offset.val = 0xC →
        bits 2 0 v = s.teardownClient.val ∧ bits 30 3 v = 0 ∧ bits 31 31 v = s.teardownBusy.toNat) ∧
      (w = .ws → offset.val = 0xD → s.queue.length ≤ 128 → v.toNat = s.queue.length) ∧
      (w ≠ .ws → 0x9 ≤ offset.val → v = 0) ∧ (0xE ≤ offset.val → v = 0)

end
end

