-- ==== Sys2Proof/Laws/Tables.lean ====
section
/-! SUPPORT. The tables: what a mapped table holds, what a search finds, and what a collection lists. -/

namespace Sys2Proof.Machine

variable {α : Type} {n : Nat}

@[simp] theorem mapTable_get (f : Fin n → α → α) (t : Vector α n) (i : Nat) (h : i < n) :
    (mapTable f t)[i] = f ⟨i, h⟩ t[i] := by
  unfold mapTable; simp

/-- The pairs of a table in order: number i stands at place i with its record. -/
theorem zip_get (t : Vector α n) (i : Nat) (h : i < ((List.finRange n).zip t.toList).length) :
    ((List.finRange n).zip t.toList)[i] = (⟨i, by simpa using h⟩, t[i]'(by simpa using h)) := by
  simp

/-- What a search finds meets the condition, and nothing lower does. -/
theorem lowest_eq_some {p : Fin n → α → Bool} {t : Vector α n} {i : Fin n} :
    lowest p t = some i ↔ p i t[i.val] ∧ ∀ j : Fin n, j < i → p j t[j.val] = false := by
  unfold lowest
  simp only [Option.map_eq_some_iff, List.find?_eq_some_iff_getElem]
  constructor
  · rintro ⟨⟨a, x⟩, ⟨hp, k, hk, hkx, hlt⟩, rfl⟩
    rw [zip_get] at hkx
    simp only [Prod.mk.injEq] at hkx
    obtain ⟨rfl, rfl⟩ := hkx
    refine ⟨hp, fun j hj => ?_⟩
    have := hlt j.val hj
    rw [zip_get] at this
    simpa using this
  · rintro ⟨hp, hlt⟩
    refine ⟨(i, t[i.val]), ⟨hp, i.val, by simp, by rw [zip_get], fun j hj => ?_⟩, rfl⟩
    rw [zip_get]
    simpa using hlt ⟨j, by omega⟩ hj

/-- A search finds nothing exactly where nothing meets the condition. -/
theorem lowest_eq_none {p : Fin n → α → Bool} {t : Vector α n} :
    lowest p t = none ↔ ∀ i : Fin n, p i t[i.val] = false := by
  unfold lowest
  simp only [Option.map_eq_none_iff, List.find?_eq_none, List.mem_iff_getElem]
  constructor
  · intro h i
    simpa using h (i, t[i.val]) ⟨i.val, by simp, by rw [zip_get]⟩
  · rintro h x ⟨i, hi, rfl⟩
    rw [zip_get]
    simpa using h ⟨i, by simpa using hi⟩

theorem lowest_isSome {p : Fin n → α → Bool} {t : Vector α n} :
    (lowest p t).isSome ↔ ∃ i : Fin n, p i t[i.val] := by
  rw [Option.isSome_iff_ne_none, Ne, lowest_eq_none]
  simp

/-- A pair of a table is a number with its record. -/
theorem mem_zip {t : Vector α n} {x : Fin n × α} : x ∈ (List.finRange n).zip t.toList ↔ x.2 = t[x.1.val] := by
  rw [List.mem_iff_getElem]
  constructor
  · rintro ⟨k, hk, rfl⟩
    rw [zip_get]
  · intro h
    exact ⟨x.1.val, by simp, by rw [zip_get]; exact Prod.ext rfl h.symm⟩

/-- A collection lists the numbers whose records meet the condition. -/
theorem mem_collect {p : Fin n → α → Bool} {t : Vector α n} {i : Fin n} :
    i ∈ collect p t ↔ p i t[i.val] := by
  unfold collect
  rw [List.mem_map]
  constructor
  · rintro ⟨x, hx, rfl⟩
    rw [List.mem_filter, mem_zip] at hx
    rw [← hx.1]
    exact hx.2
  · intro h
    exact ⟨(i, t[i.val]), List.mem_filter.mpr ⟨mem_zip.mpr rfl, h⟩, rfl⟩

/-- A collection is in ascending order. -/
theorem collect_sorted (p : Fin n → α → Bool) (t : Vector α n) : (collect p t).Pairwise (· < ·) := by
  have h : (((List.finRange n).zip t.toList).map Prod.fst).Pairwise (· < ·) := by
    rw [List.map_fst_zip (by simp)]
    exact List.pairwise_lt_finRange n
  unfold collect
  exact h.sublist ((List.filter_sublist (l := (List.finRange n).zip t.toList)).map Prod.fst)

theorem collect_nodup (p : Fin n → α → Bool) (t : Vector α n) : (collect p t).Nodup :=
  (collect_sorted p t).imp ne_of_lt

/-- The collected numbers that meet `q` are counted by those that meet both conditions. -/
theorem collect_filter_length (p : Fin n → α → Bool) (t : Vector α n) (q : Fin n → Bool) :
    ((collect p t).filter q).length = (List.finRange n).countP fun j => q j && p j t[j.val] := by
  have hz : (List.finRange n).zip t.toList = (List.finRange n).map fun j => (j, t[j.val]) := by
    apply List.ext_getElem <;> simp
  unfold collect
  rw [hz, List.countP_eq_length_filter]
  simp only [List.filter_map, List.length_map, List.filter_filter, Function.comp_def]

/-- A number is among the first `m` of an ascending list where fewer than `m` of the list are below it. -/
theorem mem_take_of_ascending {l : List (Fin n)} (hl : l.Pairwise (· < ·)) (m : Nat) (k : Fin n) :
    k ∈ l.take m ↔ k ∈ l ∧ (l.filter (· < k)).length < m := by
  induction l generalizing m with
  | nil => simp
  | cons a l ih =>
    cases m with
    | zero => simp
    | succ m =>
      have ha : ∀ {x}, x ∈ l → a < x := fun hx => List.rel_of_pairwise_cons hl hx
      simp only [List.take_succ_cons, List.mem_cons, ih hl.of_cons m]
      by_cases hk : k = a
      · subst hk
        have : l.filter (· < k) = [] := by
          rw [List.filter_eq_nil_iff]
          intro x hx
          simpa using (ha hx).le
        simp [this]
      · simp only [hk, false_or]
        by_cases hka : a < k
        · simp [hka]
        · have : k ∉ l := fun hx => hka (ha hx)
          simp [this]

/-- A sum over a table's records is a sum over its numbers. -/
theorem sum_map_toList (t : Vector α n) (f : α → Nat) : (t.toList.map f).sum = ∑ k : Fin n, f t[k.val] := by
  rw [← List.sum_ofFn]
  congr 1
  apply List.ext_getElem <;> simp

end Sys2Proof.Machine
end

