-- ==== Sys2Proof/Laws/State.lean ====
section
/-! SUPPORT. What each record update leaves of every field of the state, and what each accessor reads after it. -/

namespace Sys2Proof.Machine

variable (s : State)

/-! ### `setCell` -/

@[simp] theorem State.setCell_maps (n : CellNo) (x : Cell) : (s.setCell n x).maps = s.maps := rfl
@[simp] theorem State.setCell_holdings (n : CellNo) (x : Cell) : (s.setCell n x).holdings = s.holdings := rfl
@[simp] theorem State.setCell_queue (n : CellNo) (x : Cell) : (s.setCell n x).queue = s.queue := rfl
@[simp] theorem State.setCell_budget (n : CellNo) (x : Cell) : (s.setCell n x).budget = s.budget := rfl
@[simp] theorem State.setCell_cooling (n : CellNo) (x : Cell) : (s.setCell n x).cooling = s.cooling := rfl
@[simp] theorem State.setCell_sessions (n : CellNo) (x : Cell) : (s.setCell n x).sessions = s.sessions := rfl
@[simp] theorem State.setCell_work (n : CellNo) (x : Cell) : (s.setCell n x).work = s.work := rfl
@[simp] theorem State.setCell_lastServed (n : CellNo) (x : Cell) : (s.setCell n x).lastServed = s.lastServed := rfl
@[simp] theorem State.setCell_sliceTurn (n : CellNo) (x : Cell) : (s.setCell n x).sliceTurn = s.sliceTurn := rfl
@[simp] theorem State.setCell_teardownBusy (n : CellNo) (x : Cell) : (s.setCell n x).teardownBusy = s.teardownBusy := rfl
@[simp] theorem State.setCell_teardownClient (n : CellNo) (x : Cell) : (s.setCell n x).teardownClient = s.teardownClient := rfl
@[simp] theorem State.setCell_windows (n : CellNo) (x : Cell) : (s.setCell n x).windows = s.windows := rfl
@[simp] theorem State.setCell_supMaster (n : CellNo) (x : Cell) : (s.setCell n x).supMaster = s.supMaster := rfl
@[simp] theorem State.setCell_fault (n : CellNo) (x : Cell) : (s.setCell n x).fault = s.fault := rfl
@[simp] theorem State.setCell_more (n : CellNo) (x : Cell) : (s.setCell n x).more = s.more := rfl
@[simp] theorem State.setCell_cursor (n : CellNo) (x : Cell) : (s.setCell n x).cursor = s.cursor := rfl
@[simp] theorem State.setCell_scanResult (n : CellNo) (x : Cell) : (s.setCell n x).scanResult = s.scanResult := rfl
@[simp] theorem State.setCell_blank (n : CellNo) (x : Cell) : (s.setCell n x).blank = s.blank := rfl
@[simp] theorem State.setCell_resetHeld (n : CellNo) (x : Cell) : (s.setCell n x).resetHeld = s.resetHeld := rfl
@[simp] theorem State.setCell_readData (n : CellNo) (x : Cell) : (s.setCell n x).readData = s.readData := rfl
@[simp] theorem State.setCell_pending (n : CellNo) (x : Cell) : (s.setCell n x).pending = s.pending := rfl

/-! ### `mapCells` -/

@[simp] theorem State.mapCells_maps (f : CellNo → Cell → Cell) : (s.mapCells f).maps = s.maps := rfl
@[simp] theorem State.mapCells_holdings (f : CellNo → Cell → Cell) : (s.mapCells f).holdings = s.holdings := rfl
@[simp] theorem State.mapCells_queue (f : CellNo → Cell → Cell) : (s.mapCells f).queue = s.queue := rfl
@[simp] theorem State.mapCells_budget (f : CellNo → Cell → Cell) : (s.mapCells f).budget = s.budget := rfl
@[simp] theorem State.mapCells_cooling (f : CellNo → Cell → Cell) : (s.mapCells f).cooling = s.cooling := rfl
@[simp] theorem State.mapCells_sessions (f : CellNo → Cell → Cell) : (s.mapCells f).sessions = s.sessions := rfl
@[simp] theorem State.mapCells_work (f : CellNo → Cell → Cell) : (s.mapCells f).work = s.work := rfl
@[simp] theorem State.mapCells_lastServed (f : CellNo → Cell → Cell) : (s.mapCells f).lastServed = s.lastServed := rfl
@[simp] theorem State.mapCells_sliceTurn (f : CellNo → Cell → Cell) : (s.mapCells f).sliceTurn = s.sliceTurn := rfl
@[simp] theorem State.mapCells_teardownBusy (f : CellNo → Cell → Cell) : (s.mapCells f).teardownBusy = s.teardownBusy := rfl
@[simp] theorem State.mapCells_teardownClient (f : CellNo → Cell → Cell) : (s.mapCells f).teardownClient = s.teardownClient := rfl
@[simp] theorem State.mapCells_windows (f : CellNo → Cell → Cell) : (s.mapCells f).windows = s.windows := rfl
@[simp] theorem State.mapCells_supMaster (f : CellNo → Cell → Cell) : (s.mapCells f).supMaster = s.supMaster := rfl
@[simp] theorem State.mapCells_fault (f : CellNo → Cell → Cell) : (s.mapCells f).fault = s.fault := rfl
@[simp] theorem State.mapCells_more (f : CellNo → Cell → Cell) : (s.mapCells f).more = s.more := rfl
@[simp] theorem State.mapCells_cursor (f : CellNo → Cell → Cell) : (s.mapCells f).cursor = s.cursor := rfl
@[simp] theorem State.mapCells_scanResult (f : CellNo → Cell → Cell) : (s.mapCells f).scanResult = s.scanResult := rfl
@[simp] theorem State.mapCells_blank (f : CellNo → Cell → Cell) : (s.mapCells f).blank = s.blank := rfl
@[simp] theorem State.mapCells_resetHeld (f : CellNo → Cell → Cell) : (s.mapCells f).resetHeld = s.resetHeld := rfl
@[simp] theorem State.mapCells_readData (f : CellNo → Cell → Cell) : (s.mapCells f).readData = s.readData := rfl
@[simp] theorem State.mapCells_pending (f : CellNo → Cell → Cell) : (s.mapCells f).pending = s.pending := rfl

/-! ### `setMap` -/

@[simp] theorem State.setMap_cells (m : MapNo) (x : MapRecord) : (s.setMap m x).cells = s.cells := rfl
@[simp] theorem State.setMap_holdings (m : MapNo) (x : MapRecord) : (s.setMap m x).holdings = s.holdings := rfl
@[simp] theorem State.setMap_queue (m : MapNo) (x : MapRecord) : (s.setMap m x).queue = s.queue := rfl
@[simp] theorem State.setMap_budget (m : MapNo) (x : MapRecord) : (s.setMap m x).budget = s.budget := rfl
@[simp] theorem State.setMap_cooling (m : MapNo) (x : MapRecord) : (s.setMap m x).cooling = s.cooling := rfl
@[simp] theorem State.setMap_sessions (m : MapNo) (x : MapRecord) : (s.setMap m x).sessions = s.sessions := rfl
@[simp] theorem State.setMap_work (m : MapNo) (x : MapRecord) : (s.setMap m x).work = s.work := rfl
@[simp] theorem State.setMap_lastServed (m : MapNo) (x : MapRecord) : (s.setMap m x).lastServed = s.lastServed := rfl
@[simp] theorem State.setMap_sliceTurn (m : MapNo) (x : MapRecord) : (s.setMap m x).sliceTurn = s.sliceTurn := rfl
@[simp] theorem State.setMap_teardownBusy (m : MapNo) (x : MapRecord) : (s.setMap m x).teardownBusy = s.teardownBusy := rfl
@[simp] theorem State.setMap_teardownClient (m : MapNo) (x : MapRecord) : (s.setMap m x).teardownClient = s.teardownClient := rfl
@[simp] theorem State.setMap_windows (m : MapNo) (x : MapRecord) : (s.setMap m x).windows = s.windows := rfl
@[simp] theorem State.setMap_supMaster (m : MapNo) (x : MapRecord) : (s.setMap m x).supMaster = s.supMaster := rfl
@[simp] theorem State.setMap_fault (m : MapNo) (x : MapRecord) : (s.setMap m x).fault = s.fault := rfl
@[simp] theorem State.setMap_more (m : MapNo) (x : MapRecord) : (s.setMap m x).more = s.more := rfl
@[simp] theorem State.setMap_cursor (m : MapNo) (x : MapRecord) : (s.setMap m x).cursor = s.cursor := rfl
@[simp] theorem State.setMap_scanResult (m : MapNo) (x : MapRecord) : (s.setMap m x).scanResult = s.scanResult := rfl
@[simp] theorem State.setMap_blank (m : MapNo) (x : MapRecord) : (s.setMap m x).blank = s.blank := rfl
@[simp] theorem State.setMap_resetHeld (m : MapNo) (x : MapRecord) : (s.setMap m x).resetHeld = s.resetHeld := rfl
@[simp] theorem State.setMap_readData (m : MapNo) (x : MapRecord) : (s.setMap m x).readData = s.readData := rfl
@[simp] theorem State.setMap_pending (m : MapNo) (x : MapRecord) : (s.setMap m x).pending = s.pending := rfl

/-! ### `setHolding` -/

@[simp] theorem State.setHolding_cells (k : SlotNo) (x : Option Holding) : (s.setHolding k x).cells = s.cells := rfl
@[simp] theorem State.setHolding_maps (k : SlotNo) (x : Option Holding) : (s.setHolding k x).maps = s.maps := rfl
@[simp] theorem State.setHolding_queue (k : SlotNo) (x : Option Holding) : (s.setHolding k x).queue = s.queue := rfl
@[simp] theorem State.setHolding_budget (k : SlotNo) (x : Option Holding) : (s.setHolding k x).budget = s.budget := rfl
@[simp] theorem State.setHolding_cooling (k : SlotNo) (x : Option Holding) : (s.setHolding k x).cooling = s.cooling := rfl
@[simp] theorem State.setHolding_sessions (k : SlotNo) (x : Option Holding) : (s.setHolding k x).sessions = s.sessions := rfl
@[simp] theorem State.setHolding_work (k : SlotNo) (x : Option Holding) : (s.setHolding k x).work = s.work := rfl
@[simp] theorem State.setHolding_lastServed (k : SlotNo) (x : Option Holding) : (s.setHolding k x).lastServed = s.lastServed := rfl
@[simp] theorem State.setHolding_sliceTurn (k : SlotNo) (x : Option Holding) : (s.setHolding k x).sliceTurn = s.sliceTurn := rfl
@[simp] theorem State.setHolding_teardownBusy (k : SlotNo) (x : Option Holding) : (s.setHolding k x).teardownBusy = s.teardownBusy := rfl
@[simp] theorem State.setHolding_teardownClient (k : SlotNo) (x : Option Holding) : (s.setHolding k x).teardownClient = s.teardownClient := rfl
@[simp] theorem State.setHolding_windows (k : SlotNo) (x : Option Holding) : (s.setHolding k x).windows = s.windows := rfl
@[simp] theorem State.setHolding_supMaster (k : SlotNo) (x : Option Holding) : (s.setHolding k x).supMaster = s.supMaster := rfl
@[simp] theorem State.setHolding_fault (k : SlotNo) (x : Option Holding) : (s.setHolding k x).fault = s.fault := rfl
@[simp] theorem State.setHolding_more (k : SlotNo) (x : Option Holding) : (s.setHolding k x).more = s.more := rfl
@[simp] theorem State.setHolding_cursor (k : SlotNo) (x : Option Holding) : (s.setHolding k x).cursor = s.cursor := rfl
@[simp] theorem State.setHolding_scanResult (k : SlotNo) (x : Option Holding) : (s.setHolding k x).scanResult = s.scanResult := rfl
@[simp] theorem State.setHolding_blank (k : SlotNo) (x : Option Holding) : (s.setHolding k x).blank = s.blank := rfl
@[simp] theorem State.setHolding_resetHeld (k : SlotNo) (x : Option Holding) : (s.setHolding k x).resetHeld = s.resetHeld := rfl
@[simp] theorem State.setHolding_readData (k : SlotNo) (x : Option Holding) : (s.setHolding k x).readData = s.readData := rfl
@[simp] theorem State.setHolding_pending (k : SlotNo) (x : Option Holding) : (s.setHolding k x).pending = s.pending := rfl

/-! ### `setSession` -/

@[simp] theorem State.setSession_cells (c : ClientNo) (x : Session) : (s.setSession c x).cells = s.cells := rfl
@[simp] theorem State.setSession_maps (c : ClientNo) (x : Session) : (s.setSession c x).maps = s.maps := rfl
@[simp] theorem State.setSession_holdings (c : ClientNo) (x : Session) : (s.setSession c x).holdings = s.holdings := rfl
@[simp] theorem State.setSession_queue (c : ClientNo) (x : Session) : (s.setSession c x).queue = s.queue := rfl
@[simp] theorem State.setSession_budget (c : ClientNo) (x : Session) : (s.setSession c x).budget = s.budget := rfl
@[simp] theorem State.setSession_cooling (c : ClientNo) (x : Session) : (s.setSession c x).cooling = s.cooling := rfl
@[simp] theorem State.setSession_work (c : ClientNo) (x : Session) : (s.setSession c x).work = s.work := rfl
@[simp] theorem State.setSession_lastServed (c : ClientNo) (x : Session) : (s.setSession c x).lastServed = s.lastServed := rfl
@[simp] theorem State.setSession_sliceTurn (c : ClientNo) (x : Session) : (s.setSession c x).sliceTurn = s.sliceTurn := rfl
@[simp] theorem State.setSession_teardownBusy (c : ClientNo) (x : Session) : (s.setSession c x).teardownBusy = s.teardownBusy := rfl
@[simp] theorem State.setSession_teardownClient (c : ClientNo) (x : Session) : (s.setSession c x).teardownClient = s.teardownClient := rfl
@[simp] theorem State.setSession_windows (c : ClientNo) (x : Session) : (s.setSession c x).windows = s.windows := rfl
@[simp] theorem State.setSession_supMaster (c : ClientNo) (x : Session) : (s.setSession c x).supMaster = s.supMaster := rfl
@[simp] theorem State.setSession_fault (c : ClientNo) (x : Session) : (s.setSession c x).fault = s.fault := rfl
@[simp] theorem State.setSession_more (c : ClientNo) (x : Session) : (s.setSession c x).more = s.more := rfl
@[simp] theorem State.setSession_cursor (c : ClientNo) (x : Session) : (s.setSession c x).cursor = s.cursor := rfl
@[simp] theorem State.setSession_scanResult (c : ClientNo) (x : Session) : (s.setSession c x).scanResult = s.scanResult := rfl
@[simp] theorem State.setSession_blank (c : ClientNo) (x : Session) : (s.setSession c x).blank = s.blank := rfl
@[simp] theorem State.setSession_resetHeld (c : ClientNo) (x : Session) : (s.setSession c x).resetHeld = s.resetHeld := rfl
@[simp] theorem State.setSession_readData (c : ClientNo) (x : Session) : (s.setSession c x).readData = s.readData := rfl
@[simp] theorem State.setSession_pending (c : ClientNo) (x : Session) : (s.setSession c x).pending = s.pending := rfl

/-! ### `setWindow` -/

@[simp] theorem State.setWindow_cells (w : WindowNo) (x : Window) : (s.setWindow w x).cells = s.cells := rfl
@[simp] theorem State.setWindow_maps (w : WindowNo) (x : Window) : (s.setWindow w x).maps = s.maps := rfl
@[simp] theorem State.setWindow_holdings (w : WindowNo) (x : Window) : (s.setWindow w x).holdings = s.holdings := rfl
@[simp] theorem State.setWindow_queue (w : WindowNo) (x : Window) : (s.setWindow w x).queue = s.queue := rfl
@[simp] theorem State.setWindow_budget (w : WindowNo) (x : Window) : (s.setWindow w x).budget = s.budget := rfl
@[simp] theorem State.setWindow_cooling (w : WindowNo) (x : Window) : (s.setWindow w x).cooling = s.cooling := rfl
@[simp] theorem State.setWindow_sessions (w : WindowNo) (x : Window) : (s.setWindow w x).sessions = s.sessions := rfl
@[simp] theorem State.setWindow_work (w : WindowNo) (x : Window) : (s.setWindow w x).work = s.work := rfl
@[simp] theorem State.setWindow_lastServed (w : WindowNo) (x : Window) : (s.setWindow w x).lastServed = s.lastServed := rfl
@[simp] theorem State.setWindow_sliceTurn (w : WindowNo) (x : Window) : (s.setWindow w x).sliceTurn = s.sliceTurn := rfl
@[simp] theorem State.setWindow_teardownBusy (w : WindowNo) (x : Window) : (s.setWindow w x).teardownBusy = s.teardownBusy := rfl
@[simp] theorem State.setWindow_teardownClient (w : WindowNo) (x : Window) : (s.setWindow w x).teardownClient = s.teardownClient := rfl
@[simp] theorem State.setWindow_supMaster (w : WindowNo) (x : Window) : (s.setWindow w x).supMaster = s.supMaster := rfl
@[simp] theorem State.setWindow_fault (w : WindowNo) (x : Window) : (s.setWindow w x).fault = s.fault := rfl
@[simp] theorem State.setWindow_more (w : WindowNo) (x : Window) : (s.setWindow w x).more = s.more := rfl
@[simp] theorem State.setWindow_cursor (w : WindowNo) (x : Window) : (s.setWindow w x).cursor = s.cursor := rfl
@[simp] theorem State.setWindow_scanResult (w : WindowNo) (x : Window) : (s.setWindow w x).scanResult = s.scanResult := rfl
@[simp] theorem State.setWindow_blank (w : WindowNo) (x : Window) : (s.setWindow w x).blank = s.blank := rfl
@[simp] theorem State.setWindow_resetHeld (w : WindowNo) (x : Window) : (s.setWindow w x).resetHeld = s.resetHeld := rfl
@[simp] theorem State.setWindow_readData (w : WindowNo) (x : Window) : (s.setWindow w x).readData = s.readData := rfl
@[simp] theorem State.setWindow_pending (w : WindowNo) (x : Window) : (s.setWindow w x).pending = s.pending := rfl

/-! ### `raise` -/

@[simp] theorem State.raise_cells (w : WindowNo) (e : Event) : (s.raise w e).cells = s.cells := rfl
@[simp] theorem State.raise_maps (w : WindowNo) (e : Event) : (s.raise w e).maps = s.maps := rfl
@[simp] theorem State.raise_holdings (w : WindowNo) (e : Event) : (s.raise w e).holdings = s.holdings := rfl
@[simp] theorem State.raise_queue (w : WindowNo) (e : Event) : (s.raise w e).queue = s.queue := rfl
@[simp] theorem State.raise_budget (w : WindowNo) (e : Event) : (s.raise w e).budget = s.budget := rfl
@[simp] theorem State.raise_cooling (w : WindowNo) (e : Event) : (s.raise w e).cooling = s.cooling := rfl
@[simp] theorem State.raise_sessions (w : WindowNo) (e : Event) : (s.raise w e).sessions = s.sessions := rfl
@[simp] theorem State.raise_work (w : WindowNo) (e : Event) : (s.raise w e).work = s.work := rfl
@[simp] theorem State.raise_lastServed (w : WindowNo) (e : Event) : (s.raise w e).lastServed = s.lastServed := rfl
@[simp] theorem State.raise_sliceTurn (w : WindowNo) (e : Event) : (s.raise w e).sliceTurn = s.sliceTurn := rfl
@[simp] theorem State.raise_teardownBusy (w : WindowNo) (e : Event) : (s.raise w e).teardownBusy = s.teardownBusy := rfl
@[simp] theorem State.raise_teardownClient (w : WindowNo) (e : Event) : (s.raise w e).teardownClient = s.teardownClient := rfl
@[simp] theorem State.raise_supMaster (w : WindowNo) (e : Event) : (s.raise w e).supMaster = s.supMaster := rfl
@[simp] theorem State.raise_fault (w : WindowNo) (e : Event) : (s.raise w e).fault = s.fault := rfl
@[simp] theorem State.raise_more (w : WindowNo) (e : Event) : (s.raise w e).more = s.more := rfl
@[simp] theorem State.raise_cursor (w : WindowNo) (e : Event) : (s.raise w e).cursor = s.cursor := rfl
@[simp] theorem State.raise_scanResult (w : WindowNo) (e : Event) : (s.raise w e).scanResult = s.scanResult := rfl
@[simp] theorem State.raise_blank (w : WindowNo) (e : Event) : (s.raise w e).blank = s.blank := rfl
@[simp] theorem State.raise_resetHeld (w : WindowNo) (e : Event) : (s.raise w e).resetHeld = s.resetHeld := rfl
@[simp] theorem State.raise_readData (w : WindowNo) (e : Event) : (s.raise w e).readData = s.readData := rfl
@[simp] theorem State.raise_pending (w : WindowNo) (e : Event) : (s.raise w e).pending = s.pending := rfl

/-! ### Accessors after an update of another field -/

@[simp] theorem State.map_setCell (n : CellNo) (x : Cell) (j : MapNo) : (s.setCell n x).map j = s.map j := rfl
@[simp] theorem State.holding_setCell (n : CellNo) (x : Cell) (j : SlotNo) : (s.setCell n x).holding j = s.holding j := rfl
@[simp] theorem State.session_setCell (n : CellNo) (x : Cell) (j : ClientNo) : (s.setCell n x).session j = s.session j := rfl
@[simp] theorem State.window_setCell (n : CellNo) (x : Cell) (j : WindowNo) : (s.setCell n x).window j = s.window j := rfl
@[simp] theorem State.map_mapCells (f : CellNo → Cell → Cell) (j : MapNo) : (s.mapCells f).map j = s.map j := rfl
@[simp] theorem State.holding_mapCells (f : CellNo → Cell → Cell) (j : SlotNo) : (s.mapCells f).holding j = s.holding j := rfl
@[simp] theorem State.session_mapCells (f : CellNo → Cell → Cell) (j : ClientNo) : (s.mapCells f).session j = s.session j := rfl
@[simp] theorem State.window_mapCells (f : CellNo → Cell → Cell) (j : WindowNo) : (s.mapCells f).window j = s.window j := rfl
@[simp] theorem State.cell_setMap (m : MapNo) (x : MapRecord) (j : CellNo) : (s.setMap m x).cell j = s.cell j := rfl
@[simp] theorem State.holding_setMap (m : MapNo) (x : MapRecord) (j : SlotNo) : (s.setMap m x).holding j = s.holding j := rfl
@[simp] theorem State.session_setMap (m : MapNo) (x : MapRecord) (j : ClientNo) : (s.setMap m x).session j = s.session j := rfl
@[simp] theorem State.window_setMap (m : MapNo) (x : MapRecord) (j : WindowNo) : (s.setMap m x).window j = s.window j := rfl
@[simp] theorem State.cell_setHolding (k : SlotNo) (x : Option Holding) (j : CellNo) : (s.setHolding k x).cell j = s.cell j := rfl
@[simp] theorem State.map_setHolding (k : SlotNo) (x : Option Holding) (j : MapNo) : (s.setHolding k x).map j = s.map j := rfl
@[simp] theorem State.session_setHolding (k : SlotNo) (x : Option Holding) (j : ClientNo) : (s.setHolding k x).session j = s.session j := rfl
@[simp] theorem State.window_setHolding (k : SlotNo) (x : Option Holding) (j : WindowNo) : (s.setHolding k x).window j = s.window j := rfl
@[simp] theorem State.cell_setSession (c : ClientNo) (x : Session) (j : CellNo) : (s.setSession c x).cell j = s.cell j := rfl
@[simp] theorem State.map_setSession (c : ClientNo) (x : Session) (j : MapNo) : (s.setSession c x).map j = s.map j := rfl
@[simp] theorem State.holding_setSession (c : ClientNo) (x : Session) (j : SlotNo) : (s.setSession c x).holding j = s.holding j := rfl
@[simp] theorem State.window_setSession (c : ClientNo) (x : Session) (j : WindowNo) : (s.setSession c x).window j = s.window j := rfl
@[simp] theorem State.cell_setWindow (w : WindowNo) (x : Window) (j : CellNo) : (s.setWindow w x).cell j = s.cell j := rfl
@[simp] theorem State.map_setWindow (w : WindowNo) (x : Window) (j : MapNo) : (s.setWindow w x).map j = s.map j := rfl
@[simp] theorem State.holding_setWindow (w : WindowNo) (x : Window) (j : SlotNo) : (s.setWindow w x).holding j = s.holding j := rfl
@[simp] theorem State.session_setWindow (w : WindowNo) (x : Window) (j : ClientNo) : (s.setWindow w x).session j = s.session j := rfl
@[simp] theorem State.cell_raise (w : WindowNo) (e : Event) (j : CellNo) : (s.raise w e).cell j = s.cell j := rfl
@[simp] theorem State.map_raise (w : WindowNo) (e : Event) (j : MapNo) : (s.raise w e).map j = s.map j := rfl
@[simp] theorem State.holding_raise (w : WindowNo) (e : Event) (j : SlotNo) : (s.raise w e).holding j = s.holding j := rfl
@[simp] theorem State.session_raise (w : WindowNo) (e : Event) (j : ClientNo) : (s.raise w e).session j = s.session j := rfl

/-! ### Accessors after an update of their own field -/

theorem State.cell_setCell (n : CellNo) (x : Cell) (j : CellNo) : (s.setCell n x).cell j = if j = n then x else s.cell j := by
  simp only [State.cell, State.setCell, Vector.getElem_set, Fin.ext_iff, eq_comm]

@[simp] theorem State.cell_setCell_self (n : CellNo) (x : Cell) : (s.setCell n x).cell n = x := by
  simp [State.cell_setCell]

@[simp] theorem State.cell_setCell_ne (n : CellNo) (x : Cell) (j : CellNo) (h : j ≠ n) : (s.setCell n x).cell j = s.cell j := by
  simp [State.cell_setCell, h]

theorem State.map_setMap (m : MapNo) (x : MapRecord) (j : MapNo) : (s.setMap m x).map j = if j = m then x else s.map j := by
  simp only [State.map, State.setMap, Vector.getElem_set, Fin.ext_iff, eq_comm]

@[simp] theorem State.map_setMap_self (m : MapNo) (x : MapRecord) : (s.setMap m x).map m = x := by
  simp [State.map_setMap]

@[simp] theorem State.map_setMap_ne (m : MapNo) (x : MapRecord) (j : MapNo) (h : j ≠ m) : (s.setMap m x).map j = s.map j := by
  simp [State.map_setMap, h]

theorem State.holding_setHolding (k : SlotNo) (x : Option Holding) (j : SlotNo) : (s.setHolding k x).holding j = if j = k then x else s.holding j := by
  simp only [State.holding, State.setHolding, Vector.getElem_set, Fin.ext_iff, eq_comm]

@[simp] theorem State.holding_setHolding_self (k : SlotNo) (x : Option Holding) : (s.setHolding k x).holding k = x := by
  simp [State.holding_setHolding]

@[simp] theorem State.holding_setHolding_ne (k : SlotNo) (x : Option Holding) (j : SlotNo) (h : j ≠ k) : (s.setHolding k x).holding j = s.holding j := by
  simp [State.holding_setHolding, h]

theorem State.session_setSession (c : ClientNo) (x : Session) (j : ClientNo) : (s.setSession c x).session j = if j = c then x else s.session j := by
  simp only [State.session, State.setSession, Vector.getElem_set, Fin.ext_iff, eq_comm]

@[simp] theorem State.session_setSession_self (c : ClientNo) (x : Session) : (s.setSession c x).session c = x := by
  simp [State.session_setSession]

@[simp] theorem State.session_setSession_ne (c : ClientNo) (x : Session) (j : ClientNo) (h : j ≠ c) : (s.setSession c x).session j = s.session j := by
  simp [State.session_setSession, h]

theorem State.window_setWindow (w : WindowNo) (x : Window) (j : WindowNo) : (s.setWindow w x).window j = if j = w then x else s.window j := by
  simp only [State.window, State.setWindow, Vector.getElem_set, Fin.ext_iff, eq_comm]

@[simp] theorem State.window_setWindow_self (w : WindowNo) (x : Window) : (s.setWindow w x).window w = x := by
  simp [State.window_setWindow]

@[simp] theorem State.window_setWindow_ne (w : WindowNo) (x : Window) (j : WindowNo) (h : j ≠ w) : (s.setWindow w x).window j = s.window j := by
  simp [State.window_setWindow, h]

@[simp] theorem State.cell_mapCells (f : CellNo → Cell → Cell) (n : CellNo) :
    (s.mapCells f).cell n = f n (s.cell n) := by
  simp [State.cell, State.mapCells]

theorem State.window_raise (w : WindowNo) (e : Event) (j : WindowNo) :
    (s.raise w e).window j = if j = w then (s.window w).raise e else s.window j := by
  simp [State.raise, State.window_setWindow]

@[simp] theorem State.window_raise_self (w : WindowNo) (e : Event) : (s.raise w e).window w = (s.window w).raise e := by
  simp [State.window_raise]

@[simp] theorem State.window_raise_ne (w : WindowNo) (e : Event) (j : WindowNo) (h : j ≠ w) :
    (s.raise w e).window j = s.window j := by
  simp [State.window_raise, h]

/-- Two states are equal where every field is; the tables are compared record by record through the accessors. -/
theorem State.cells_ext {t : State} (h : ∀ n, t.cell n = s.cell n) : t.cells = s.cells :=
  Vector.ext fun i hi => h ⟨i, hi⟩

theorem State.holdings_ext {t : State} (h : ∀ k, t.holding k = s.holding k) : t.holdings = s.holdings :=
  Vector.ext fun i hi => h ⟨i, hi⟩

theorem State.sessions_ext {t : State} (h : ∀ c, t.session c = s.session c) : t.sessions = s.sessions :=
  Vector.ext fun i hi => h ⟨i, hi⟩

theorem State.windows_ext {t : State} (h : ∀ w, t.window w = s.window w) : t.windows = s.windows :=
  Vector.ext fun i hi => h ⟨i, hi⟩

/-! ### The client windows and WS -/

theorem client_window_ne_ws (c : ClientNo) : ClientNo.window c ≠ WindowNo.ws := by
  simp [ClientNo.window, WindowNo.ws, Fin.ext_iff]; omega

theorem ws_ne_client_window (c : ClientNo) : WindowNo.ws ≠ ClientNo.window c := (client_window_ne_ws c).symm

theorem client_window_injective {c d : ClientNo} (h : ClientNo.window c = ClientNo.window d) : c = d := by
  simpa [ClientNo.window] using h

end Sys2Proof.Machine
end

