-- ==== Sys2Proof/Laws/Frames.lean ====
section
/-! SUPPORT. The frame of every shared operation: which fields it changes at all, and one lemma for each field that it leaves
unchanged. -/

namespace Sys2Proof.Machine

variable (s : State)

/-! ### `setCounts` -/

theorem State.setCounts_only (c : ClientNo) (owned held : Nat) : s.setCounts c owned held =
    { s with sessions := (s.setCounts c owned held).sessions, windows := (s.setCounts c owned held).windows } := by
  unfold State.setCounts
  dsimp only
  split
  · rfl
  · split <;> rfl

@[simp] theorem State.setCounts_cells (c : ClientNo) (owned held : Nat) : (s.setCounts c owned held).cells = s.cells :=
  (congrArg State.cells (s.setCounts_only c owned held) :)
@[simp] theorem State.setCounts_maps (c : ClientNo) (owned held : Nat) : (s.setCounts c owned held).maps = s.maps :=
  (congrArg State.maps (s.setCounts_only c owned held) :)
@[simp] theorem State.setCounts_holdings (c : ClientNo) (owned held : Nat) : (s.setCounts c owned held).holdings = s.holdings :=
  (congrArg State.holdings (s.setCounts_only c owned held) :)
@[simp] theorem State.setCounts_queue (c : ClientNo) (owned held : Nat) : (s.setCounts c owned held).queue = s.queue :=
  (congrArg State.queue (s.setCounts_only c owned held) :)
@[simp] theorem State.setCounts_budget (c : ClientNo) (owned held : Nat) : (s.setCounts c owned held).budget = s.budget :=
  (congrArg State.budget (s.setCounts_only c owned held) :)
@[simp] theorem State.setCounts_cooling (c : ClientNo) (owned held : Nat) : (s.setCounts c owned held).cooling = s.cooling :=
  (congrArg State.cooling (s.setCounts_only c owned held) :)
@[simp] theorem State.setCounts_work (c : ClientNo) (owned held : Nat) : (s.setCounts c owned held).work = s.work :=
  (congrArg State.work (s.setCounts_only c owned held) :)
@[simp] theorem State.setCounts_lastServed (c : ClientNo) (owned held : Nat) : (s.setCounts c owned held).lastServed = s.lastServed :=
  (congrArg State.lastServed (s.setCounts_only c owned held) :)
@[simp] theorem State.setCounts_sliceTurn (c : ClientNo) (owned held : Nat) : (s.setCounts c owned held).sliceTurn = s.sliceTurn :=
  (congrArg State.sliceTurn (s.setCounts_only c owned held) :)
@[simp] theorem State.setCounts_teardownBusy (c : ClientNo) (owned held : Nat) : (s.setCounts c owned held).teardownBusy = s.teardownBusy :=
  (congrArg State.teardownBusy (s.setCounts_only c owned held) :)
@[simp] theorem State.setCounts_teardownClient (c : ClientNo) (owned held : Nat) : (s.setCounts c owned held).teardownClient = s.teardownClient :=
  (congrArg State.teardownClient (s.setCounts_only c owned held) :)
@[simp] theorem State.setCounts_supMaster (c : ClientNo) (owned held : Nat) : (s.setCounts c owned held).supMaster = s.supMaster :=
  (congrArg State.supMaster (s.setCounts_only c owned held) :)
@[simp] theorem State.setCounts_fault (c : ClientNo) (owned held : Nat) : (s.setCounts c owned held).fault = s.fault :=
  (congrArg State.fault (s.setCounts_only c owned held) :)
@[simp] theorem State.setCounts_more (c : ClientNo) (owned held : Nat) : (s.setCounts c owned held).more = s.more :=
  (congrArg State.more (s.setCounts_only c owned held) :)
@[simp] theorem State.setCounts_cursor (c : ClientNo) (owned held : Nat) : (s.setCounts c owned held).cursor = s.cursor :=
  (congrArg State.cursor (s.setCounts_only c owned held) :)
@[simp] theorem State.setCounts_scanResult (c : ClientNo) (owned held : Nat) : (s.setCounts c owned held).scanResult = s.scanResult :=
  (congrArg State.scanResult (s.setCounts_only c owned held) :)
@[simp] theorem State.setCounts_blank (c : ClientNo) (owned held : Nat) : (s.setCounts c owned held).blank = s.blank :=
  (congrArg State.blank (s.setCounts_only c owned held) :)
@[simp] theorem State.setCounts_resetHeld (c : ClientNo) (owned held : Nat) : (s.setCounts c owned held).resetHeld = s.resetHeld :=
  (congrArg State.resetHeld (s.setCounts_only c owned held) :)
@[simp] theorem State.setCounts_readData (c : ClientNo) (owned held : Nat) : (s.setCounts c owned held).readData = s.readData :=
  (congrArg State.readData (s.setCounts_only c owned held) :)
@[simp] theorem State.setCounts_pending (c : ClientNo) (owned held : Nat) : (s.setCounts c owned held).pending = s.pending :=
  (congrArg State.pending (s.setCounts_only c owned held) :)

@[simp] theorem State.cell_setCounts (c : ClientNo) (owned held : Nat) (j : CellNo) : (s.setCounts c owned held).cell j = s.cell j :=
  (congrArg (State.cell · j) (s.setCounts_only c owned held) :)
@[simp] theorem State.map_setCounts (c : ClientNo) (owned held : Nat) (j : MapNo) : (s.setCounts c owned held).map j = s.map j :=
  (congrArg (State.map · j) (s.setCounts_only c owned held) :)
@[simp] theorem State.holding_setCounts (c : ClientNo) (owned held : Nat) (j : SlotNo) : (s.setCounts c owned held).holding j = s.holding j :=
  (congrArg (State.holding · j) (s.setCounts_only c owned held) :)

/-! ### `place` -/

theorem State.place_only (n : CellNo) (tag : Option Tag) : s.place n tag =
    { s with queue := (s.place n tag).queue, windows := (s.place n tag).windows } := by
  unfold State.place
  dsimp only
  split
  · rfl
  · split <;> rfl

@[simp] theorem State.place_cells (n : CellNo) (tag : Option Tag) : (s.place n tag).cells = s.cells :=
  (congrArg State.cells (s.place_only n tag) :)
@[simp] theorem State.place_maps (n : CellNo) (tag : Option Tag) : (s.place n tag).maps = s.maps :=
  (congrArg State.maps (s.place_only n tag) :)
@[simp] theorem State.place_holdings (n : CellNo) (tag : Option Tag) : (s.place n tag).holdings = s.holdings :=
  (congrArg State.holdings (s.place_only n tag) :)
@[simp] theorem State.place_budget (n : CellNo) (tag : Option Tag) : (s.place n tag).budget = s.budget :=
  (congrArg State.budget (s.place_only n tag) :)
@[simp] theorem State.place_cooling (n : CellNo) (tag : Option Tag) : (s.place n tag).cooling = s.cooling :=
  (congrArg State.cooling (s.place_only n tag) :)
@[simp] theorem State.place_sessions (n : CellNo) (tag : Option Tag) : (s.place n tag).sessions = s.sessions :=
  (congrArg State.sessions (s.place_only n tag) :)
@[simp] theorem State.place_work (n : CellNo) (tag : Option Tag) : (s.place n tag).work = s.work :=
  (congrArg State.work (s.place_only n tag) :)
@[simp] theorem State.place_lastServed (n : CellNo) (tag : Option Tag) : (s.place n tag).lastServed = s.lastServed :=
  (congrArg State.lastServed (s.place_only n tag) :)
@[simp] theorem State.place_sliceTurn (n : CellNo) (tag : Option Tag) : (s.place n tag).sliceTurn = s.sliceTurn :=
  (congrArg State.sliceTurn (s.place_only n tag) :)
@[simp] theorem State.place_teardownBusy (n : CellNo) (tag : Option Tag) : (s.place n tag).teardownBusy = s.teardownBusy :=
  (congrArg State.teardownBusy (s.place_only n tag) :)
@[simp] theorem State.place_teardownClient (n : CellNo) (tag : Option Tag) : (s.place n tag).teardownClient = s.teardownClient :=
  (congrArg State.teardownClient (s.place_only n tag) :)
@[simp] theorem State.place_supMaster (n : CellNo) (tag : Option Tag) : (s.place n tag).supMaster = s.supMaster :=
  (congrArg State.supMaster (s.place_only n tag) :)
@[simp] theorem State.place_fault (n : CellNo) (tag : Option Tag) : (s.place n tag).fault = s.fault :=
  (congrArg State.fault (s.place_only n tag) :)
@[simp] theorem State.place_more (n : CellNo) (tag : Option Tag) : (s.place n tag).more = s.more :=
  (congrArg State.more (s.place_only n tag) :)
@[simp] theorem State.place_cursor (n : CellNo) (tag : Option Tag) : (s.place n tag).cursor = s.cursor :=
  (congrArg State.cursor (s.place_only n tag) :)
@[simp] theorem State.place_scanResult (n : CellNo) (tag : Option Tag) : (s.place n tag).scanResult = s.scanResult :=
  (congrArg State.scanResult (s.place_only n tag) :)
@[simp] theorem State.place_blank (n : CellNo) (tag : Option Tag) : (s.place n tag).blank = s.blank :=
  (congrArg State.blank (s.place_only n tag) :)
@[simp] theorem State.place_resetHeld (n : CellNo) (tag : Option Tag) : (s.place n tag).resetHeld = s.resetHeld :=
  (congrArg State.resetHeld (s.place_only n tag) :)
@[simp] theorem State.place_readData (n : CellNo) (tag : Option Tag) : (s.place n tag).readData = s.readData :=
  (congrArg State.readData (s.place_only n tag) :)
@[simp] theorem State.place_pending (n : CellNo) (tag : Option Tag) : (s.place n tag).pending = s.pending :=
  (congrArg State.pending (s.place_only n tag) :)

@[simp] theorem State.cell_place (n : CellNo) (tag : Option Tag) (j : CellNo) : (s.place n tag).cell j = s.cell j :=
  (congrArg (State.cell · j) (s.place_only n tag) :)
@[simp] theorem State.map_place (n : CellNo) (tag : Option Tag) (j : MapNo) : (s.place n tag).map j = s.map j :=
  (congrArg (State.map · j) (s.place_only n tag) :)
@[simp] theorem State.holding_place (n : CellNo) (tag : Option Tag) (j : SlotNo) : (s.place n tag).holding j = s.holding j :=
  (congrArg (State.holding · j) (s.place_only n tag) :)
@[simp] theorem State.session_place (n : CellNo) (tag : Option Tag) (j : ClientNo) : (s.place n tag).session j = s.session j :=
  (congrArg (State.session · j) (s.place_only n tag) :)

/-! ### `setValue` -/

theorem State.setValue_only (n : CellNo) (v : Colour) (tag : Option Tag) : s.setValue n v tag =
    { s with cells := (s.setValue n v tag).cells, queue := (s.setValue n v tag).queue, windows := (s.setValue n v tag).windows } := by
  unfold State.setValue
  split
  · rfl
  · rw [State.place_only]; rfl

@[simp] theorem State.setValue_maps (n : CellNo) (v : Colour) (tag : Option Tag) : (s.setValue n v tag).maps = s.maps :=
  (congrArg State.maps (s.setValue_only n v tag) :)
@[simp] theorem State.setValue_holdings (n : CellNo) (v : Colour) (tag : Option Tag) : (s.setValue n v tag).holdings = s.holdings :=
  (congrArg State.holdings (s.setValue_only n v tag) :)
@[simp] theorem State.setValue_budget (n : CellNo) (v : Colour) (tag : Option Tag) : (s.setValue n v tag).budget = s.budget :=
  (congrArg State.budget (s.setValue_only n v tag) :)
@[simp] theorem State.setValue_cooling (n : CellNo) (v : Colour) (tag : Option Tag) : (s.setValue n v tag).cooling = s.cooling :=
  (congrArg State.cooling (s.setValue_only n v tag) :)
@[simp] theorem State.setValue_sessions (n : CellNo) (v : Colour) (tag : Option Tag) : (s.setValue n v tag).sessions = s.sessions :=
  (congrArg State.sessions (s.setValue_only n v tag) :)
@[simp] theorem State.setValue_work (n : CellNo) (v : Colour) (tag : Option Tag) : (s.setValue n v tag).work = s.work :=
  (congrArg State.work (s.setValue_only n v tag) :)
@[simp] theorem State.setValue_lastServed (n : CellNo) (v : Colour) (tag : Option Tag) : (s.setValue n v tag).lastServed = s.lastServed :=
  (congrArg State.lastServed (s.setValue_only n v tag) :)
@[simp] theorem State.setValue_sliceTurn (n : CellNo) (v : Colour) (tag : Option Tag) : (s.setValue n v tag).sliceTurn = s.sliceTurn :=
  (congrArg State.sliceTurn (s.setValue_only n v tag) :)
@[simp] theorem State.setValue_teardownBusy (n : CellNo) (v : Colour) (tag : Option Tag) : (s.setValue n v tag).teardownBusy = s.teardownBusy :=
  (congrArg State.teardownBusy (s.setValue_only n v tag) :)
@[simp] theorem State.setValue_teardownClient (n : CellNo) (v : Colour) (tag : Option Tag) : (s.setValue n v tag).teardownClient = s.teardownClient :=
  (congrArg State.teardownClient (s.setValue_only n v tag) :)
@[simp] theorem State.setValue_supMaster (n : CellNo) (v : Colour) (tag : Option Tag) : (s.setValue n v tag).supMaster = s.supMaster :=
  (congrArg State.supMaster (s.setValue_only n v tag) :)
@[simp] theorem State.setValue_fault (n : CellNo) (v : Colour) (tag : Option Tag) : (s.setValue n v tag).fault = s.fault :=
  (congrArg State.fault (s.setValue_only n v tag) :)
@[simp] theorem State.setValue_more (n : CellNo) (v : Colour) (tag : Option Tag) : (s.setValue n v tag).more = s.more :=
  (congrArg State.more (s.setValue_only n v tag) :)
@[simp] theorem State.setValue_cursor (n : CellNo) (v : Colour) (tag : Option Tag) : (s.setValue n v tag).cursor = s.cursor :=
  (congrArg State.cursor (s.setValue_only n v tag) :)
@[simp] theorem State.setValue_scanResult (n : CellNo) (v : Colour) (tag : Option Tag) : (s.setValue n v tag).scanResult = s.scanResult :=
  (congrArg State.scanResult (s.setValue_only n v tag) :)
@[simp] theorem State.setValue_blank (n : CellNo) (v : Colour) (tag : Option Tag) : (s.setValue n v tag).blank = s.blank :=
  (congrArg State.blank (s.setValue_only n v tag) :)
@[simp] theorem State.setValue_resetHeld (n : CellNo) (v : Colour) (tag : Option Tag) : (s.setValue n v tag).resetHeld = s.resetHeld :=
  (congrArg State.resetHeld (s.setValue_only n v tag) :)
@[simp] theorem State.setValue_readData (n : CellNo) (v : Colour) (tag : Option Tag) : (s.setValue n v tag).readData = s.readData :=
  (congrArg State.readData (s.setValue_only n v tag) :)
@[simp] theorem State.setValue_pending (n : CellNo) (v : Colour) (tag : Option Tag) : (s.setValue n v tag).pending = s.pending :=
  (congrArg State.pending (s.setValue_only n v tag) :)

@[simp] theorem State.map_setValue (n : CellNo) (v : Colour) (tag : Option Tag) (j : MapNo) : (s.setValue n v tag).map j = s.map j :=
  (congrArg (State.map · j) (s.setValue_only n v tag) :)
@[simp] theorem State.holding_setValue (n : CellNo) (v : Colour) (tag : Option Tag) (j : SlotNo) : (s.setValue n v tag).holding j = s.holding j :=
  (congrArg (State.holding · j) (s.setValue_only n v tag) :)
@[simp] theorem State.session_setValue (n : CellNo) (v : Colour) (tag : Option Tag) (j : ClientNo) : (s.setValue n v tag).session j = s.session j :=
  (congrArg (State.session · j) (s.setValue_only n v tag) :)

/-! ### `takeEntries` -/

theorem State.takeEntries_only (p : Entry → Bool) : s.takeEntries p =
    { s with cells := (s.takeEntries p).cells, queue := (s.takeEntries p).queue } := rfl

@[simp] theorem State.takeEntries_maps (p : Entry → Bool) : (s.takeEntries p).maps = s.maps :=
  (congrArg State.maps (s.takeEntries_only p) :)
@[simp] theorem State.takeEntries_holdings (p : Entry → Bool) : (s.takeEntries p).holdings = s.holdings :=
  (congrArg State.holdings (s.takeEntries_only p) :)
@[simp] theorem State.takeEntries_budget (p : Entry → Bool) : (s.takeEntries p).budget = s.budget :=
  (congrArg State.budget (s.takeEntries_only p) :)
@[simp] theorem State.takeEntries_cooling (p : Entry → Bool) : (s.takeEntries p).cooling = s.cooling :=
  (congrArg State.cooling (s.takeEntries_only p) :)
@[simp] theorem State.takeEntries_sessions (p : Entry → Bool) : (s.takeEntries p).sessions = s.sessions :=
  (congrArg State.sessions (s.takeEntries_only p) :)
@[simp] theorem State.takeEntries_work (p : Entry → Bool) : (s.takeEntries p).work = s.work :=
  (congrArg State.work (s.takeEntries_only p) :)
@[simp] theorem State.takeEntries_lastServed (p : Entry → Bool) : (s.takeEntries p).lastServed = s.lastServed :=
  (congrArg State.lastServed (s.takeEntries_only p) :)
@[simp] theorem State.takeEntries_sliceTurn (p : Entry → Bool) : (s.takeEntries p).sliceTurn = s.sliceTurn :=
  (congrArg State.sliceTurn (s.takeEntries_only p) :)
@[simp] theorem State.takeEntries_teardownBusy (p : Entry → Bool) : (s.takeEntries p).teardownBusy = s.teardownBusy :=
  (congrArg State.teardownBusy (s.takeEntries_only p) :)
@[simp] theorem State.takeEntries_teardownClient (p : Entry → Bool) : (s.takeEntries p).teardownClient = s.teardownClient :=
  (congrArg State.teardownClient (s.takeEntries_only p) :)
@[simp] theorem State.takeEntries_windows (p : Entry → Bool) : (s.takeEntries p).windows = s.windows :=
  (congrArg State.windows (s.takeEntries_only p) :)
@[simp] theorem State.takeEntries_supMaster (p : Entry → Bool) : (s.takeEntries p).supMaster = s.supMaster :=
  (congrArg State.supMaster (s.takeEntries_only p) :)
@[simp] theorem State.takeEntries_fault (p : Entry → Bool) : (s.takeEntries p).fault = s.fault :=
  (congrArg State.fault (s.takeEntries_only p) :)
@[simp] theorem State.takeEntries_more (p : Entry → Bool) : (s.takeEntries p).more = s.more :=
  (congrArg State.more (s.takeEntries_only p) :)
@[simp] theorem State.takeEntries_cursor (p : Entry → Bool) : (s.takeEntries p).cursor = s.cursor :=
  (congrArg State.cursor (s.takeEntries_only p) :)
@[simp] theorem State.takeEntries_scanResult (p : Entry → Bool) : (s.takeEntries p).scanResult = s.scanResult :=
  (congrArg State.scanResult (s.takeEntries_only p) :)
@[simp] theorem State.takeEntries_blank (p : Entry → Bool) : (s.takeEntries p).blank = s.blank :=
  (congrArg State.blank (s.takeEntries_only p) :)
@[simp] theorem State.takeEntries_resetHeld (p : Entry → Bool) : (s.takeEntries p).resetHeld = s.resetHeld :=
  (congrArg State.resetHeld (s.takeEntries_only p) :)
@[simp] theorem State.takeEntries_readData (p : Entry → Bool) : (s.takeEntries p).readData = s.readData :=
  (congrArg State.readData (s.takeEntries_only p) :)
@[simp] theorem State.takeEntries_pending (p : Entry → Bool) : (s.takeEntries p).pending = s.pending :=
  (congrArg State.pending (s.takeEntries_only p) :)

@[simp] theorem State.map_takeEntries (p : Entry → Bool) (j : MapNo) : (s.takeEntries p).map j = s.map j :=
  (congrArg (State.map · j) (s.takeEntries_only p) :)
@[simp] theorem State.holding_takeEntries (p : Entry → Bool) (j : SlotNo) : (s.takeEntries p).holding j = s.holding j :=
  (congrArg (State.holding · j) (s.takeEntries_only p) :)
@[simp] theorem State.session_takeEntries (p : Entry → Bool) (j : ClientNo) : (s.takeEntries p).session j = s.session j :=
  (congrArg (State.session · j) (s.takeEntries_only p) :)
@[simp] theorem State.window_takeEntries (p : Entry → Bool) (j : WindowNo) : (s.takeEntries p).window j = s.window j :=
  (congrArg (State.window · j) (s.takeEntries_only p) :)

/-! ### `drain` -/

theorem State.drain_only (m : MapNo) : s.drain m =
    { s with cells := (s.drain m).cells, queue := (s.drain m).queue } := rfl

@[simp] theorem State.drain_maps (m : MapNo) : (s.drain m).maps = s.maps := (congrArg State.maps (s.drain_only m) :)
@[simp] theorem State.drain_holdings (m : MapNo) : (s.drain m).holdings = s.holdings :=
  (congrArg State.holdings (s.drain_only m) :)
@[simp] theorem State.drain_budget (m : MapNo) : (s.drain m).budget = s.budget := (congrArg State.budget (s.drain_only m) :)
@[simp] theorem State.drain_cooling (m : MapNo) : (s.drain m).cooling = s.cooling :=
  (congrArg State.cooling (s.drain_only m) :)
@[simp] theorem State.drain_sessions (m : MapNo) : (s.drain m).sessions = s.sessions :=
  (congrArg State.sessions (s.drain_only m) :)
@[simp] theorem State.drain_work (m : MapNo) : (s.drain m).work = s.work := (congrArg State.work (s.drain_only m) :)
@[simp] theorem State.drain_lastServed (m : MapNo) : (s.drain m).lastServed = s.lastServed :=
  (congrArg State.lastServed (s.drain_only m) :)
@[simp] theorem State.drain_sliceTurn (m : MapNo) : (s.drain m).sliceTurn = s.sliceTurn :=
  (congrArg State.sliceTurn (s.drain_only m) :)
@[simp] theorem State.drain_teardownBusy (m : MapNo) : (s.drain m).teardownBusy = s.teardownBusy :=
  (congrArg State.teardownBusy (s.drain_only m) :)
@[simp] theorem State.drain_teardownClient (m : MapNo) : (s.drain m).teardownClient = s.teardownClient :=
  (congrArg State.teardownClient (s.drain_only m) :)
@[simp] theorem State.drain_windows (m : MapNo) : (s.drain m).windows = s.windows :=
  (congrArg State.windows (s.drain_only m) :)
@[simp] theorem State.drain_supMaster (m : MapNo) : (s.drain m).supMaster = s.supMaster :=
  (congrArg State.supMaster (s.drain_only m) :)
@[simp] theorem State.drain_fault (m : MapNo) : (s.drain m).fault = s.fault := (congrArg State.fault (s.drain_only m) :)
@[simp] theorem State.drain_more (m : MapNo) : (s.drain m).more = s.more := (congrArg State.more (s.drain_only m) :)
@[simp] theorem State.drain_cursor (m : MapNo) : (s.drain m).cursor = s.cursor := (congrArg State.cursor (s.drain_only m) :)
@[simp] theorem State.drain_scanResult (m : MapNo) : (s.drain m).scanResult = s.scanResult :=
  (congrArg State.scanResult (s.drain_only m) :)
@[simp] theorem State.drain_blank (m : MapNo) : (s.drain m).blank = s.blank := (congrArg State.blank (s.drain_only m) :)
@[simp] theorem State.drain_resetHeld (m : MapNo) : (s.drain m).resetHeld = s.resetHeld :=
  (congrArg State.resetHeld (s.drain_only m) :)
@[simp] theorem State.drain_readData (m : MapNo) : (s.drain m).readData = s.readData :=
  (congrArg State.readData (s.drain_only m) :)
@[simp] theorem State.drain_pending (m : MapNo) : (s.drain m).pending = s.pending :=
  (congrArg State.pending (s.drain_only m) :)

@[simp] theorem State.map_drain (m : MapNo) (j : MapNo) : (s.drain m).map j = s.map j :=
  (congrArg (State.map · j) (s.drain_only m) :)
@[simp] theorem State.holding_drain (m : MapNo) (j : SlotNo) : (s.drain m).holding j = s.holding j :=
  (congrArg (State.holding · j) (s.drain_only m) :)
@[simp] theorem State.session_drain (m : MapNo) (j : ClientNo) : (s.drain m).session j = s.session j :=
  (congrArg (State.session · j) (s.drain_only m) :)
@[simp] theorem State.window_drain (m : MapNo) (j : WindowNo) : (s.drain m).window j = s.window j :=
  (congrArg (State.window · j) (s.drain_only m) :)

/-! ### `commit` -/

theorem State.commit_only : s.commit =
    { s with cells := s.commit.cells, queue := s.commit.queue } := rfl

@[simp] theorem State.commit_maps : s.commit.maps = s.maps := (congrArg State.maps (s.commit_only) :)
@[simp] theorem State.commit_holdings : s.commit.holdings = s.holdings := (congrArg State.holdings (s.commit_only) :)
@[simp] theorem State.commit_budget : s.commit.budget = s.budget := (congrArg State.budget (s.commit_only) :)
@[simp] theorem State.commit_cooling : s.commit.cooling = s.cooling := (congrArg State.cooling (s.commit_only) :)
@[simp] theorem State.commit_sessions : s.commit.sessions = s.sessions := (congrArg State.sessions (s.commit_only) :)
@[simp] theorem State.commit_work : s.commit.work = s.work := (congrArg State.work (s.commit_only) :)
@[simp] theorem State.commit_lastServed : s.commit.lastServed = s.lastServed := (congrArg State.lastServed (s.commit_only) :)
@[simp] theorem State.commit_sliceTurn : s.commit.sliceTurn = s.sliceTurn := (congrArg State.sliceTurn (s.commit_only) :)
@[simp] theorem State.commit_teardownBusy : s.commit.teardownBusy = s.teardownBusy :=
  (congrArg State.teardownBusy (s.commit_only) :)
@[simp] theorem State.commit_teardownClient : s.commit.teardownClient = s.teardownClient :=
  (congrArg State.teardownClient (s.commit_only) :)
@[simp] theorem State.commit_windows : s.commit.windows = s.windows := (congrArg State.windows (s.commit_only) :)
@[simp] theorem State.commit_supMaster : s.commit.supMaster = s.supMaster := (congrArg State.supMaster (s.commit_only) :)
@[simp] theorem State.commit_fault : s.commit.fault = s.fault := (congrArg State.fault (s.commit_only) :)
@[simp] theorem State.commit_more : s.commit.more = s.more := (congrArg State.more (s.commit_only) :)
@[simp] theorem State.commit_cursor : s.commit.cursor = s.cursor := (congrArg State.cursor (s.commit_only) :)
@[simp] theorem State.commit_scanResult : s.commit.scanResult = s.scanResult := (congrArg State.scanResult (s.commit_only) :)
@[simp] theorem State.commit_blank : s.commit.blank = s.blank := (congrArg State.blank (s.commit_only) :)
@[simp] theorem State.commit_resetHeld : s.commit.resetHeld = s.resetHeld := (congrArg State.resetHeld (s.commit_only) :)
@[simp] theorem State.commit_readData : s.commit.readData = s.readData := (congrArg State.readData (s.commit_only) :)
@[simp] theorem State.commit_pending : s.commit.pending = s.pending := (congrArg State.pending (s.commit_only) :)

@[simp] theorem State.map_commit (j : MapNo) : s.commit.map j = s.map j := (congrArg (State.map · j) (s.commit_only) :)
@[simp] theorem State.holding_commit (j : SlotNo) : s.commit.holding j = s.holding j :=
  (congrArg (State.holding · j) (s.commit_only) :)
@[simp] theorem State.session_commit (j : ClientNo) : s.commit.session j = s.session j :=
  (congrArg (State.session · j) (s.commit_only) :)
@[simp] theorem State.window_commit (j : WindowNo) : s.commit.window j = s.window j :=
  (congrArg (State.window · j) (s.commit_only) :)

/-! ### `countdown` -/

theorem State.countdown_only : s.countdown =
    { s with cells := s.countdown.cells } := rfl

@[simp] theorem State.countdown_maps : s.countdown.maps = s.maps := (congrArg State.maps (s.countdown_only) :)
@[simp] theorem State.countdown_holdings : s.countdown.holdings = s.holdings :=
  (congrArg State.holdings (s.countdown_only) :)
@[simp] theorem State.countdown_queue : s.countdown.queue = s.queue := (congrArg State.queue (s.countdown_only) :)
@[simp] theorem State.countdown_budget : s.countdown.budget = s.budget := (congrArg State.budget (s.countdown_only) :)
@[simp] theorem State.countdown_cooling : s.countdown.cooling = s.cooling := (congrArg State.cooling (s.countdown_only) :)
@[simp] theorem State.countdown_sessions : s.countdown.sessions = s.sessions :=
  (congrArg State.sessions (s.countdown_only) :)
@[simp] theorem State.countdown_work : s.countdown.work = s.work := (congrArg State.work (s.countdown_only) :)
@[simp] theorem State.countdown_lastServed : s.countdown.lastServed = s.lastServed :=
  (congrArg State.lastServed (s.countdown_only) :)
@[simp] theorem State.countdown_sliceTurn : s.countdown.sliceTurn = s.sliceTurn :=
  (congrArg State.sliceTurn (s.countdown_only) :)
@[simp] theorem State.countdown_teardownBusy : s.countdown.teardownBusy = s.teardownBusy :=
  (congrArg State.teardownBusy (s.countdown_only) :)
@[simp] theorem State.countdown_teardownClient : s.countdown.teardownClient = s.teardownClient :=
  (congrArg State.teardownClient (s.countdown_only) :)
@[simp] theorem State.countdown_windows : s.countdown.windows = s.windows := (congrArg State.windows (s.countdown_only) :)
@[simp] theorem State.countdown_supMaster : s.countdown.supMaster = s.supMaster :=
  (congrArg State.supMaster (s.countdown_only) :)
@[simp] theorem State.countdown_fault : s.countdown.fault = s.fault := (congrArg State.fault (s.countdown_only) :)
@[simp] theorem State.countdown_more : s.countdown.more = s.more := (congrArg State.more (s.countdown_only) :)
@[simp] theorem State.countdown_cursor : s.countdown.cursor = s.cursor := (congrArg State.cursor (s.countdown_only) :)
@[simp] theorem State.countdown_scanResult : s.countdown.scanResult = s.scanResult :=
  (congrArg State.scanResult (s.countdown_only) :)
@[simp] theorem State.countdown_blank : s.countdown.blank = s.blank := (congrArg State.blank (s.countdown_only) :)
@[simp] theorem State.countdown_resetHeld : s.countdown.resetHeld = s.resetHeld :=
  (congrArg State.resetHeld (s.countdown_only) :)
@[simp] theorem State.countdown_readData : s.countdown.readData = s.readData :=
  (congrArg State.readData (s.countdown_only) :)
@[simp] theorem State.countdown_pending : s.countdown.pending = s.pending := (congrArg State.pending (s.countdown_only) :)

@[simp] theorem State.map_countdown (j : MapNo) : s.countdown.map j = s.map j :=
  (congrArg (State.map · j) (s.countdown_only) :)
@[simp] theorem State.holding_countdown (j : SlotNo) : s.countdown.holding j = s.holding j :=
  (congrArg (State.holding · j) (s.countdown_only) :)
@[simp] theorem State.session_countdown (j : ClientNo) : s.countdown.session j = s.session j :=
  (congrArg (State.session · j) (s.countdown_only) :)
@[simp] theorem State.window_countdown (j : WindowNo) : s.countdown.window j = s.window j :=
  (congrArg (State.window · j) (s.countdown_only) :)

/-! ### `release` -/

theorem State.release_only (p : CellNo → Bool) : s.release p =
    { s with cells := (s.release p).cells, queue := (s.release p).queue } := rfl

@[simp] theorem State.release_maps (p : CellNo → Bool) : (s.release p).maps = s.maps :=
  (congrArg State.maps (s.release_only p) :)
@[simp] theorem State.release_holdings (p : CellNo → Bool) : (s.release p).holdings = s.holdings :=
  (congrArg State.holdings (s.release_only p) :)
@[simp] theorem State.release_budget (p : CellNo → Bool) : (s.release p).budget = s.budget :=
  (congrArg State.budget (s.release_only p) :)
@[simp] theorem State.release_cooling (p : CellNo → Bool) : (s.release p).cooling = s.cooling :=
  (congrArg State.cooling (s.release_only p) :)
@[simp] theorem State.release_sessions (p : CellNo → Bool) : (s.release p).sessions = s.sessions :=
  (congrArg State.sessions (s.release_only p) :)
@[simp] theorem State.release_work (p : CellNo → Bool) : (s.release p).work = s.work :=
  (congrArg State.work (s.release_only p) :)
@[simp] theorem State.release_lastServed (p : CellNo → Bool) : (s.release p).lastServed = s.lastServed :=
  (congrArg State.lastServed (s.release_only p) :)
@[simp] theorem State.release_sliceTurn (p : CellNo → Bool) : (s.release p).sliceTurn = s.sliceTurn :=
  (congrArg State.sliceTurn (s.release_only p) :)
@[simp] theorem State.release_teardownBusy (p : CellNo → Bool) : (s.release p).teardownBusy = s.teardownBusy :=
  (congrArg State.teardownBusy (s.release_only p) :)
@[simp] theorem State.release_teardownClient (p : CellNo → Bool) : (s.release p).teardownClient = s.teardownClient :=
  (congrArg State.teardownClient (s.release_only p) :)
@[simp] theorem State.release_windows (p : CellNo → Bool) : (s.release p).windows = s.windows :=
  (congrArg State.windows (s.release_only p) :)
@[simp] theorem State.release_supMaster (p : CellNo → Bool) : (s.release p).supMaster = s.supMaster :=
  (congrArg State.supMaster (s.release_only p) :)
@[simp] theorem State.release_fault (p : CellNo → Bool) : (s.release p).fault = s.fault :=
  (congrArg State.fault (s.release_only p) :)
@[simp] theorem State.release_more (p : CellNo → Bool) : (s.release p).more = s.more :=
  (congrArg State.more (s.release_only p) :)
@[simp] theorem State.release_cursor (p : CellNo → Bool) : (s.release p).cursor = s.cursor :=
  (congrArg State.cursor (s.release_only p) :)
@[simp] theorem State.release_scanResult (p : CellNo → Bool) : (s.release p).scanResult = s.scanResult :=
  (congrArg State.scanResult (s.release_only p) :)
@[simp] theorem State.release_blank (p : CellNo → Bool) : (s.release p).blank = s.blank :=
  (congrArg State.blank (s.release_only p) :)
@[simp] theorem State.release_resetHeld (p : CellNo → Bool) : (s.release p).resetHeld = s.resetHeld :=
  (congrArg State.resetHeld (s.release_only p) :)
@[simp] theorem State.release_readData (p : CellNo → Bool) : (s.release p).readData = s.readData :=
  (congrArg State.readData (s.release_only p) :)
@[simp] theorem State.release_pending (p : CellNo → Bool) : (s.release p).pending = s.pending :=
  (congrArg State.pending (s.release_only p) :)

@[simp] theorem State.map_release (p : CellNo → Bool) (j : MapNo) : (s.release p).map j = s.map j :=
  (congrArg (State.map · j) (s.release_only p) :)
@[simp] theorem State.holding_release (p : CellNo → Bool) (j : SlotNo) : (s.release p).holding j = s.holding j :=
  (congrArg (State.holding · j) (s.release_only p) :)
@[simp] theorem State.session_release (p : CellNo → Bool) (j : ClientNo) : (s.release p).session j = s.session j :=
  (congrArg (State.session · j) (s.release_only p) :)
@[simp] theorem State.window_release (p : CellNo → Bool) (j : WindowNo) : (s.release p).window j = s.window j :=
  (congrArg (State.window · j) (s.release_only p) :)

/-! ### `addReference` -/

theorem State.addReference_only (n : CellNo) : s.addReference n =
    { s with cells := (s.addReference n).cells } := rfl

@[simp] theorem State.addReference_maps (n : CellNo) : (s.addReference n).maps = s.maps :=
  (congrArg State.maps (s.addReference_only n) :)
@[simp] theorem State.addReference_holdings (n : CellNo) : (s.addReference n).holdings = s.holdings :=
  (congrArg State.holdings (s.addReference_only n) :)
@[simp] theorem State.addReference_queue (n : CellNo) : (s.addReference n).queue = s.queue :=
  (congrArg State.queue (s.addReference_only n) :)
@[simp] theorem State.addReference_budget (n : CellNo) : (s.addReference n).budget = s.budget :=
  (congrArg State.budget (s.addReference_only n) :)
@[simp] theorem State.addReference_cooling (n : CellNo) : (s.addReference n).cooling = s.cooling :=
  (congrArg State.cooling (s.addReference_only n) :)
@[simp] theorem State.addReference_sessions (n : CellNo) : (s.addReference n).sessions = s.sessions :=
  (congrArg State.sessions (s.addReference_only n) :)
@[simp] theorem State.addReference_work (n : CellNo) : (s.addReference n).work = s.work :=
  (congrArg State.work (s.addReference_only n) :)
@[simp] theorem State.addReference_lastServed (n : CellNo) : (s.addReference n).lastServed = s.lastServed :=
  (congrArg State.lastServed (s.addReference_only n) :)
@[simp] theorem State.addReference_sliceTurn (n : CellNo) : (s.addReference n).sliceTurn = s.sliceTurn :=
  (congrArg State.sliceTurn (s.addReference_only n) :)
@[simp] theorem State.addReference_teardownBusy (n : CellNo) : (s.addReference n).teardownBusy = s.teardownBusy :=
  (congrArg State.teardownBusy (s.addReference_only n) :)
@[simp] theorem State.addReference_teardownClient (n : CellNo) : (s.addReference n).teardownClient = s.teardownClient :=
  (congrArg State.teardownClient (s.addReference_only n) :)
@[simp] theorem State.addReference_windows (n : CellNo) : (s.addReference n).windows = s.windows :=
  (congrArg State.windows (s.addReference_only n) :)
@[simp] theorem State.addReference_supMaster (n : CellNo) : (s.addReference n).supMaster = s.supMaster :=
  (congrArg State.supMaster (s.addReference_only n) :)
@[simp] theorem State.addReference_fault (n : CellNo) : (s.addReference n).fault = s.fault :=
  (congrArg State.fault (s.addReference_only n) :)
@[simp] theorem State.addReference_more (n : CellNo) : (s.addReference n).more = s.more :=
  (congrArg State.more (s.addReference_only n) :)
@[simp] theorem State.addReference_cursor (n : CellNo) : (s.addReference n).cursor = s.cursor :=
  (congrArg State.cursor (s.addReference_only n) :)
@[simp] theorem State.addReference_scanResult (n : CellNo) : (s.addReference n).scanResult = s.scanResult :=
  (congrArg State.scanResult (s.addReference_only n) :)
@[simp] theorem State.addReference_blank (n : CellNo) : (s.addReference n).blank = s.blank :=
  (congrArg State.blank (s.addReference_only n) :)
@[simp] theorem State.addReference_resetHeld (n : CellNo) : (s.addReference n).resetHeld = s.resetHeld :=
  (congrArg State.resetHeld (s.addReference_only n) :)
@[simp] theorem State.addReference_readData (n : CellNo) : (s.addReference n).readData = s.readData :=
  (congrArg State.readData (s.addReference_only n) :)
@[simp] theorem State.addReference_pending (n : CellNo) : (s.addReference n).pending = s.pending :=
  (congrArg State.pending (s.addReference_only n) :)

@[simp] theorem State.map_addReference (n : CellNo) (j : MapNo) : (s.addReference n).map j = s.map j :=
  (congrArg (State.map · j) (s.addReference_only n) :)
@[simp] theorem State.holding_addReference (n : CellNo) (j : SlotNo) : (s.addReference n).holding j = s.holding j :=
  (congrArg (State.holding · j) (s.addReference_only n) :)
@[simp] theorem State.session_addReference (n : CellNo) (j : ClientNo) : (s.addReference n).session j = s.session j :=
  (congrArg (State.session · j) (s.addReference_only n) :)
@[simp] theorem State.window_addReference (n : CellNo) (j : WindowNo) : (s.addReference n).window j = s.window j :=
  (congrArg (State.window · j) (s.addReference_only n) :)

/-! ### `dropReferences` -/

theorem State.dropReferences_only (n : CellNo) (k : Nat) : s.dropReferences n k =
    { s with cells := (s.dropReferences n k).cells, queue := (s.dropReferences n k).queue } := by
  unfold State.dropReferences
  split <;> rfl

@[simp] theorem State.dropReferences_maps (n : CellNo) (k : Nat) : (s.dropReferences n k).maps = s.maps :=
  (congrArg State.maps (s.dropReferences_only n k) :)
@[simp] theorem State.dropReferences_holdings (n : CellNo) (k : Nat) : (s.dropReferences n k).holdings = s.holdings :=
  (congrArg State.holdings (s.dropReferences_only n k) :)
@[simp] theorem State.dropReferences_budget (n : CellNo) (k : Nat) : (s.dropReferences n k).budget = s.budget :=
  (congrArg State.budget (s.dropReferences_only n k) :)
@[simp] theorem State.dropReferences_cooling (n : CellNo) (k : Nat) : (s.dropReferences n k).cooling = s.cooling :=
  (congrArg State.cooling (s.dropReferences_only n k) :)
@[simp] theorem State.dropReferences_sessions (n : CellNo) (k : Nat) : (s.dropReferences n k).sessions = s.sessions :=
  (congrArg State.sessions (s.dropReferences_only n k) :)
@[simp] theorem State.dropReferences_work (n : CellNo) (k : Nat) : (s.dropReferences n k).work = s.work :=
  (congrArg State.work (s.dropReferences_only n k) :)
@[simp] theorem State.dropReferences_lastServed (n : CellNo) (k : Nat) : (s.dropReferences n k).lastServed = s.lastServed :=
  (congrArg State.lastServed (s.dropReferences_only n k) :)
@[simp] theorem State.dropReferences_sliceTurn (n : CellNo) (k : Nat) : (s.dropReferences n k).sliceTurn = s.sliceTurn :=
  (congrArg State.sliceTurn (s.dropReferences_only n k) :)
@[simp] theorem State.dropReferences_teardownBusy (n : CellNo) (k : Nat) : (s.dropReferences n k).teardownBusy = s.teardownBusy :=
  (congrArg State.teardownBusy (s.dropReferences_only n k) :)
@[simp] theorem State.dropReferences_teardownClient (n : CellNo) (k : Nat) : (s.dropReferences n k).teardownClient = s.teardownClient :=
  (congrArg State.teardownClient (s.dropReferences_only n k) :)
@[simp] theorem State.dropReferences_windows (n : CellNo) (k : Nat) : (s.dropReferences n k).windows = s.windows :=
  (congrArg State.windows (s.dropReferences_only n k) :)
@[simp] theorem State.dropReferences_supMaster (n : CellNo) (k : Nat) : (s.dropReferences n k).supMaster = s.supMaster :=
  (congrArg State.supMaster (s.dropReferences_only n k) :)
@[simp] theorem State.dropReferences_fault (n : CellNo) (k : Nat) : (s.dropReferences n k).fault = s.fault :=
  (congrArg State.fault (s.dropReferences_only n k) :)
@[simp] theorem State.dropReferences_more (n : CellNo) (k : Nat) : (s.dropReferences n k).more = s.more :=
  (congrArg State.more (s.dropReferences_only n k) :)
@[simp] theorem State.dropReferences_cursor (n : CellNo) (k : Nat) : (s.dropReferences n k).cursor = s.cursor :=
  (congrArg State.cursor (s.dropReferences_only n k) :)
@[simp] theorem State.dropReferences_scanResult (n : CellNo) (k : Nat) : (s.dropReferences n k).scanResult = s.scanResult :=
  (congrArg State.scanResult (s.dropReferences_only n k) :)
@[simp] theorem State.dropReferences_blank (n : CellNo) (k : Nat) : (s.dropReferences n k).blank = s.blank :=
  (congrArg State.blank (s.dropReferences_only n k) :)
@[simp] theorem State.dropReferences_resetHeld (n : CellNo) (k : Nat) : (s.dropReferences n k).resetHeld = s.resetHeld :=
  (congrArg State.resetHeld (s.dropReferences_only n k) :)
@[simp] theorem State.dropReferences_readData (n : CellNo) (k : Nat) : (s.dropReferences n k).readData = s.readData :=
  (congrArg State.readData (s.dropReferences_only n k) :)
@[simp] theorem State.dropReferences_pending (n : CellNo) (k : Nat) : (s.dropReferences n k).pending = s.pending :=
  (congrArg State.pending (s.dropReferences_only n k) :)

@[simp] theorem State.map_dropReferences (n : CellNo) (k : Nat) (j : MapNo) : (s.dropReferences n k).map j = s.map j :=
  (congrArg (State.map · j) (s.dropReferences_only n k) :)
@[simp] theorem State.holding_dropReferences (n : CellNo) (k : Nat) (j : SlotNo) : (s.dropReferences n k).holding j = s.holding j :=
  (congrArg (State.holding · j) (s.dropReferences_only n k) :)
@[simp] theorem State.session_dropReferences (n : CellNo) (k : Nat) (j : ClientNo) : (s.dropReferences n k).session j = s.session j :=
  (congrArg (State.session · j) (s.dropReferences_only n k) :)
@[simp] theorem State.window_dropReferences (n : CellNo) (k : Nat) (j : WindowNo) : (s.dropReferences n k).window j = s.window j :=
  (congrArg (State.window · j) (s.dropReferences_only n k) :)

/-! ### `placeRecord` -/

theorem State.placeRecord_only (c : ClientNo) (n : CellNo) (k : SlotNo) : s.placeRecord c n k =
    { s with holdings := (s.placeRecord c n k).holdings, sessions := (s.placeRecord c n k).sessions, windows := (s.placeRecord c n k).windows } := by
  unfold State.placeRecord
  rw [State.setCounts_only]; rfl

@[simp] theorem State.placeRecord_cells (c : ClientNo) (n : CellNo) (k : SlotNo) : (s.placeRecord c n k).cells = s.cells :=
  (congrArg State.cells (s.placeRecord_only c n k) :)
@[simp] theorem State.placeRecord_maps (c : ClientNo) (n : CellNo) (k : SlotNo) : (s.placeRecord c n k).maps = s.maps :=
  (congrArg State.maps (s.placeRecord_only c n k) :)
@[simp] theorem State.placeRecord_queue (c : ClientNo) (n : CellNo) (k : SlotNo) : (s.placeRecord c n k).queue = s.queue :=
  (congrArg State.queue (s.placeRecord_only c n k) :)
@[simp] theorem State.placeRecord_budget (c : ClientNo) (n : CellNo) (k : SlotNo) : (s.placeRecord c n k).budget = s.budget :=
  (congrArg State.budget (s.placeRecord_only c n k) :)
@[simp] theorem State.placeRecord_cooling (c : ClientNo) (n : CellNo) (k : SlotNo) : (s.placeRecord c n k).cooling = s.cooling :=
  (congrArg State.cooling (s.placeRecord_only c n k) :)
@[simp] theorem State.placeRecord_work (c : ClientNo) (n : CellNo) (k : SlotNo) : (s.placeRecord c n k).work = s.work :=
  (congrArg State.work (s.placeRecord_only c n k) :)
@[simp] theorem State.placeRecord_lastServed (c : ClientNo) (n : CellNo) (k : SlotNo) : (s.placeRecord c n k).lastServed = s.lastServed :=
  (congrArg State.lastServed (s.placeRecord_only c n k) :)
@[simp] theorem State.placeRecord_sliceTurn (c : ClientNo) (n : CellNo) (k : SlotNo) : (s.placeRecord c n k).sliceTurn = s.sliceTurn :=
  (congrArg State.sliceTurn (s.placeRecord_only c n k) :)
@[simp] theorem State.placeRecord_teardownBusy (c : ClientNo) (n : CellNo) (k : SlotNo) : (s.placeRecord c n k).teardownBusy = s.teardownBusy :=
  (congrArg State.teardownBusy (s.placeRecord_only c n k) :)
@[simp] theorem State.placeRecord_teardownClient (c : ClientNo) (n : CellNo) (k : SlotNo) : (s.placeRecord c n k).teardownClient = s.teardownClient :=
  (congrArg State.teardownClient (s.placeRecord_only c n k) :)
@[simp] theorem State.placeRecord_supMaster (c : ClientNo) (n : CellNo) (k : SlotNo) : (s.placeRecord c n k).supMaster = s.supMaster :=
  (congrArg State.supMaster (s.placeRecord_only c n k) :)
@[simp] theorem State.placeRecord_fault (c : ClientNo) (n : CellNo) (k : SlotNo) : (s.placeRecord c n k).fault = s.fault :=
  (congrArg State.fault (s.placeRecord_only c n k) :)
@[simp] theorem State.placeRecord_more (c : ClientNo) (n : CellNo) (k : SlotNo) : (s.placeRecord c n k).more = s.more :=
  (congrArg State.more (s.placeRecord_only c n k) :)
@[simp] theorem State.placeRecord_cursor (c : ClientNo) (n : CellNo) (k : SlotNo) : (s.placeRecord c n k).cursor = s.cursor :=
  (congrArg State.cursor (s.placeRecord_only c n k) :)
@[simp] theorem State.placeRecord_scanResult (c : ClientNo) (n : CellNo) (k : SlotNo) : (s.placeRecord c n k).scanResult = s.scanResult :=
  (congrArg State.scanResult (s.placeRecord_only c n k) :)
@[simp] theorem State.placeRecord_blank (c : ClientNo) (n : CellNo) (k : SlotNo) : (s.placeRecord c n k).blank = s.blank :=
  (congrArg State.blank (s.placeRecord_only c n k) :)
@[simp] theorem State.placeRecord_resetHeld (c : ClientNo) (n : CellNo) (k : SlotNo) : (s.placeRecord c n k).resetHeld = s.resetHeld :=
  (congrArg State.resetHeld (s.placeRecord_only c n k) :)
@[simp] theorem State.placeRecord_readData (c : ClientNo) (n : CellNo) (k : SlotNo) : (s.placeRecord c n k).readData = s.readData :=
  (congrArg State.readData (s.placeRecord_only c n k) :)
@[simp] theorem State.placeRecord_pending (c : ClientNo) (n : CellNo) (k : SlotNo) : (s.placeRecord c n k).pending = s.pending :=
  (congrArg State.pending (s.placeRecord_only c n k) :)

@[simp] theorem State.cell_placeRecord (c : ClientNo) (n : CellNo) (k : SlotNo) (j : CellNo) : (s.placeRecord c n k).cell j = s.cell j :=
  (congrArg (State.cell · j) (s.placeRecord_only c n k) :)
@[simp] theorem State.map_placeRecord (c : ClientNo) (n : CellNo) (k : SlotNo) (j : MapNo) : (s.placeRecord c n k).map j = s.map j :=
  (congrArg (State.map · j) (s.placeRecord_only c n k) :)

/-! ### `removeRecord` -/

theorem State.removeRecord_only (c : ClientNo) (k : SlotNo) : s.removeRecord c k =
    { s with cells := (s.removeRecord c k).cells, queue := (s.removeRecord c k).queue, holdings := (s.removeRecord c k).holdings, sessions := (s.removeRecord c k).sessions, windows := (s.removeRecord c k).windows } := by
  unfold State.removeRecord
  split
  · rfl
  · rw [State.setCounts_only, State.dropReferences_only]; rfl

@[simp] theorem State.removeRecord_maps (c : ClientNo) (k : SlotNo) : (s.removeRecord c k).maps = s.maps :=
  (congrArg State.maps (s.removeRecord_only c k) :)
@[simp] theorem State.removeRecord_budget (c : ClientNo) (k : SlotNo) : (s.removeRecord c k).budget = s.budget :=
  (congrArg State.budget (s.removeRecord_only c k) :)
@[simp] theorem State.removeRecord_cooling (c : ClientNo) (k : SlotNo) : (s.removeRecord c k).cooling = s.cooling :=
  (congrArg State.cooling (s.removeRecord_only c k) :)
@[simp] theorem State.removeRecord_work (c : ClientNo) (k : SlotNo) : (s.removeRecord c k).work = s.work :=
  (congrArg State.work (s.removeRecord_only c k) :)
@[simp] theorem State.removeRecord_lastServed (c : ClientNo) (k : SlotNo) : (s.removeRecord c k).lastServed = s.lastServed :=
  (congrArg State.lastServed (s.removeRecord_only c k) :)
@[simp] theorem State.removeRecord_sliceTurn (c : ClientNo) (k : SlotNo) : (s.removeRecord c k).sliceTurn = s.sliceTurn :=
  (congrArg State.sliceTurn (s.removeRecord_only c k) :)
@[simp] theorem State.removeRecord_teardownBusy (c : ClientNo) (k : SlotNo) : (s.removeRecord c k).teardownBusy = s.teardownBusy :=
  (congrArg State.teardownBusy (s.removeRecord_only c k) :)
@[simp] theorem State.removeRecord_teardownClient (c : ClientNo) (k : SlotNo) : (s.removeRecord c k).teardownClient = s.teardownClient :=
  (congrArg State.teardownClient (s.removeRecord_only c k) :)
@[simp] theorem State.removeRecord_supMaster (c : ClientNo) (k : SlotNo) : (s.removeRecord c k).supMaster = s.supMaster :=
  (congrArg State.supMaster (s.removeRecord_only c k) :)
@[simp] theorem State.removeRecord_fault (c : ClientNo) (k : SlotNo) : (s.removeRecord c k).fault = s.fault :=
  (congrArg State.fault (s.removeRecord_only c k) :)
@[simp] theorem State.removeRecord_more (c : ClientNo) (k : SlotNo) : (s.removeRecord c k).more = s.more :=
  (congrArg State.more (s.removeRecord_only c k) :)
@[simp] theorem State.removeRecord_cursor (c : ClientNo) (k : SlotNo) : (s.removeRecord c k).cursor = s.cursor :=
  (congrArg State.cursor (s.removeRecord_only c k) :)
@[simp] theorem State.removeRecord_scanResult (c : ClientNo) (k : SlotNo) : (s.removeRecord c k).scanResult = s.scanResult :=
  (congrArg State.scanResult (s.removeRecord_only c k) :)
@[simp] theorem State.removeRecord_blank (c : ClientNo) (k : SlotNo) : (s.removeRecord c k).blank = s.blank :=
  (congrArg State.blank (s.removeRecord_only c k) :)
@[simp] theorem State.removeRecord_resetHeld (c : ClientNo) (k : SlotNo) : (s.removeRecord c k).resetHeld = s.resetHeld :=
  (congrArg State.resetHeld (s.removeRecord_only c k) :)
@[simp] theorem State.removeRecord_readData (c : ClientNo) (k : SlotNo) : (s.removeRecord c k).readData = s.readData :=
  (congrArg State.readData (s.removeRecord_only c k) :)
@[simp] theorem State.removeRecord_pending (c : ClientNo) (k : SlotNo) : (s.removeRecord c k).pending = s.pending :=
  (congrArg State.pending (s.removeRecord_only c k) :)

@[simp] theorem State.map_removeRecord (c : ClientNo) (k : SlotNo) (j : MapNo) : (s.removeRecord c k).map j = s.map j :=
  (congrArg (State.map · j) (s.removeRecord_only c k) :)

/-! ### `giveBackCell` -/

theorem State.giveBackCell_only (c : ClientNo) (n : CellNo) : s.giveBackCell c n =
    { s with cells := (s.giveBackCell c n).cells, queue := (s.giveBackCell c n).queue, sessions := (s.giveBackCell c n).sessions, windows := (s.giveBackCell c n).windows } := by
  unfold State.giveBackCell
  rw [State.setCounts_only]; rfl

@[simp] theorem State.giveBackCell_maps (c : ClientNo) (n : CellNo) : (s.giveBackCell c n).maps = s.maps :=
  (congrArg State.maps (s.giveBackCell_only c n) :)
@[simp] theorem State.giveBackCell_holdings (c : ClientNo) (n : CellNo) : (s.giveBackCell c n).holdings = s.holdings :=
  (congrArg State.holdings (s.giveBackCell_only c n) :)
@[simp] theorem State.giveBackCell_budget (c : ClientNo) (n : CellNo) : (s.giveBackCell c n).budget = s.budget :=
  (congrArg State.budget (s.giveBackCell_only c n) :)
@[simp] theorem State.giveBackCell_cooling (c : ClientNo) (n : CellNo) : (s.giveBackCell c n).cooling = s.cooling :=
  (congrArg State.cooling (s.giveBackCell_only c n) :)
@[simp] theorem State.giveBackCell_work (c : ClientNo) (n : CellNo) : (s.giveBackCell c n).work = s.work :=
  (congrArg State.work (s.giveBackCell_only c n) :)
@[simp] theorem State.giveBackCell_lastServed (c : ClientNo) (n : CellNo) : (s.giveBackCell c n).lastServed = s.lastServed :=
  (congrArg State.lastServed (s.giveBackCell_only c n) :)
@[simp] theorem State.giveBackCell_sliceTurn (c : ClientNo) (n : CellNo) : (s.giveBackCell c n).sliceTurn = s.sliceTurn :=
  (congrArg State.sliceTurn (s.giveBackCell_only c n) :)
@[simp] theorem State.giveBackCell_teardownBusy (c : ClientNo) (n : CellNo) : (s.giveBackCell c n).teardownBusy = s.teardownBusy :=
  (congrArg State.teardownBusy (s.giveBackCell_only c n) :)
@[simp] theorem State.giveBackCell_teardownClient (c : ClientNo) (n : CellNo) : (s.giveBackCell c n).teardownClient = s.teardownClient :=
  (congrArg State.teardownClient (s.giveBackCell_only c n) :)
@[simp] theorem State.giveBackCell_supMaster (c : ClientNo) (n : CellNo) : (s.giveBackCell c n).supMaster = s.supMaster :=
  (congrArg State.supMaster (s.giveBackCell_only c n) :)
@[simp] theorem State.giveBackCell_fault (c : ClientNo) (n : CellNo) : (s.giveBackCell c n).fault = s.fault :=
  (congrArg State.fault (s.giveBackCell_only c n) :)
@[simp] theorem State.giveBackCell_more (c : ClientNo) (n : CellNo) : (s.giveBackCell c n).more = s.more :=
  (congrArg State.more (s.giveBackCell_only c n) :)
@[simp] theorem State.giveBackCell_cursor (c : ClientNo) (n : CellNo) : (s.giveBackCell c n).cursor = s.cursor :=
  (congrArg State.cursor (s.giveBackCell_only c n) :)
@[simp] theorem State.giveBackCell_scanResult (c : ClientNo) (n : CellNo) : (s.giveBackCell c n).scanResult = s.scanResult :=
  (congrArg State.scanResult (s.giveBackCell_only c n) :)
@[simp] theorem State.giveBackCell_blank (c : ClientNo) (n : CellNo) : (s.giveBackCell c n).blank = s.blank :=
  (congrArg State.blank (s.giveBackCell_only c n) :)
@[simp] theorem State.giveBackCell_resetHeld (c : ClientNo) (n : CellNo) : (s.giveBackCell c n).resetHeld = s.resetHeld :=
  (congrArg State.resetHeld (s.giveBackCell_only c n) :)
@[simp] theorem State.giveBackCell_readData (c : ClientNo) (n : CellNo) : (s.giveBackCell c n).readData = s.readData :=
  (congrArg State.readData (s.giveBackCell_only c n) :)
@[simp] theorem State.giveBackCell_pending (c : ClientNo) (n : CellNo) : (s.giveBackCell c n).pending = s.pending :=
  (congrArg State.pending (s.giveBackCell_only c n) :)

@[simp] theorem State.map_giveBackCell (c : ClientNo) (n : CellNo) (j : MapNo) : (s.giveBackCell c n).map j = s.map j :=
  (congrArg (State.map · j) (s.giveBackCell_only c n) :)
@[simp] theorem State.holding_giveBackCell (c : ClientNo) (n : CellNo) (j : SlotNo) : (s.giveBackCell c n).holding j = s.holding j :=
  (congrArg (State.holding · j) (s.giveBackCell_only c n) :)

/-! ### `post` -/

theorem State.post_only (w : WindowNo) (c : Command) (r : Reply) : s.post w c r =
    { s with windows := (s.post w c r).windows, work := (s.post w c r).work } := rfl

@[simp] theorem State.post_cells (w : WindowNo) (c : Command) (r : Reply) : (s.post w c r).cells = s.cells :=
  (congrArg State.cells (s.post_only w c r) :)
@[simp] theorem State.post_maps (w : WindowNo) (c : Command) (r : Reply) : (s.post w c r).maps = s.maps :=
  (congrArg State.maps (s.post_only w c r) :)
@[simp] theorem State.post_holdings (w : WindowNo) (c : Command) (r : Reply) : (s.post w c r).holdings = s.holdings :=
  (congrArg State.holdings (s.post_only w c r) :)
@[simp] theorem State.post_queue (w : WindowNo) (c : Command) (r : Reply) : (s.post w c r).queue = s.queue :=
  (congrArg State.queue (s.post_only w c r) :)
@[simp] theorem State.post_budget (w : WindowNo) (c : Command) (r : Reply) : (s.post w c r).budget = s.budget :=
  (congrArg State.budget (s.post_only w c r) :)
@[simp] theorem State.post_cooling (w : WindowNo) (c : Command) (r : Reply) : (s.post w c r).cooling = s.cooling :=
  (congrArg State.cooling (s.post_only w c r) :)
@[simp] theorem State.post_sessions (w : WindowNo) (c : Command) (r : Reply) : (s.post w c r).sessions = s.sessions :=
  (congrArg State.sessions (s.post_only w c r) :)
@[simp] theorem State.post_lastServed (w : WindowNo) (c : Command) (r : Reply) : (s.post w c r).lastServed = s.lastServed :=
  (congrArg State.lastServed (s.post_only w c r) :)
@[simp] theorem State.post_sliceTurn (w : WindowNo) (c : Command) (r : Reply) : (s.post w c r).sliceTurn = s.sliceTurn :=
  (congrArg State.sliceTurn (s.post_only w c r) :)
@[simp] theorem State.post_teardownBusy (w : WindowNo) (c : Command) (r : Reply) : (s.post w c r).teardownBusy = s.teardownBusy :=
  (congrArg State.teardownBusy (s.post_only w c r) :)
@[simp] theorem State.post_teardownClient (w : WindowNo) (c : Command) (r : Reply) : (s.post w c r).teardownClient = s.teardownClient :=
  (congrArg State.teardownClient (s.post_only w c r) :)
@[simp] theorem State.post_supMaster (w : WindowNo) (c : Command) (r : Reply) : (s.post w c r).supMaster = s.supMaster :=
  (congrArg State.supMaster (s.post_only w c r) :)
@[simp] theorem State.post_fault (w : WindowNo) (c : Command) (r : Reply) : (s.post w c r).fault = s.fault :=
  (congrArg State.fault (s.post_only w c r) :)
@[simp] theorem State.post_more (w : WindowNo) (c : Command) (r : Reply) : (s.post w c r).more = s.more :=
  (congrArg State.more (s.post_only w c r) :)
@[simp] theorem State.post_cursor (w : WindowNo) (c : Command) (r : Reply) : (s.post w c r).cursor = s.cursor :=
  (congrArg State.cursor (s.post_only w c r) :)
@[simp] theorem State.post_scanResult (w : WindowNo) (c : Command) (r : Reply) : (s.post w c r).scanResult = s.scanResult :=
  (congrArg State.scanResult (s.post_only w c r) :)
@[simp] theorem State.post_blank (w : WindowNo) (c : Command) (r : Reply) : (s.post w c r).blank = s.blank :=
  (congrArg State.blank (s.post_only w c r) :)
@[simp] theorem State.post_resetHeld (w : WindowNo) (c : Command) (r : Reply) : (s.post w c r).resetHeld = s.resetHeld :=
  (congrArg State.resetHeld (s.post_only w c r) :)
@[simp] theorem State.post_readData (w : WindowNo) (c : Command) (r : Reply) : (s.post w c r).readData = s.readData :=
  (congrArg State.readData (s.post_only w c r) :)
@[simp] theorem State.post_pending (w : WindowNo) (c : Command) (r : Reply) : (s.post w c r).pending = s.pending :=
  (congrArg State.pending (s.post_only w c r) :)

@[simp] theorem State.cell_post (w : WindowNo) (c : Command) (r : Reply) (j : CellNo) : (s.post w c r).cell j = s.cell j :=
  (congrArg (State.cell · j) (s.post_only w c r) :)
@[simp] theorem State.map_post (w : WindowNo) (c : Command) (r : Reply) (j : MapNo) : (s.post w c r).map j = s.map j :=
  (congrArg (State.map · j) (s.post_only w c r) :)
@[simp] theorem State.holding_post (w : WindowNo) (c : Command) (r : Reply) (j : SlotNo) : (s.post w c r).holding j = s.holding j :=
  (congrArg (State.holding · j) (s.post_only w c r) :)
@[simp] theorem State.session_post (w : WindowNo) (c : Command) (r : Reply) (j : ClientNo) : (s.post w c r).session j = s.session j :=
  (congrArg (State.session · j) (s.post_only w c r) :)

end Sys2Proof.Machine
end

