-- ==== Sys2Proof/Laws/Ops.lean ====
section
/-! SUPPORT. What every shared operation does to the fields that it changes, said once for each. The fields that it leaves are
in Laws/Frames.lean. -/

namespace Sys2Proof.Machine

variable (s : State)

/-! ### Counts and warnings -/

/-- The session records after `setCounts`: that of the client is recounted (R64, R66 to R68). -/
theorem State.session_setCounts (c : ClientNo) (owned held : Nat) (j : ClientNo) :
    (s.setCounts c owned held).session j = if j = c then (s.session c).recount owned held else s.session j := by
  unfold State.setCounts Session.recount armedFor Session.charge
  dsimp only
  by_cases hj : j = c
  · subst hj
    simp only [if_true]
    split
    · rename_i h
      simp [h.1, h.2.1, Nat.not_lt.mpr h.2.2]
    · rename_i h
      split
      · rename_i h'
        simp [Nat.not_lt.mpr (Nat.le_of_lt h')]
      · rename_i h'
        simp only [State.session_setSession_self]
        split
        · rename_i hr
          cases ha : (s.session j).armed <;> simp_all
        · rfl
  · simp only [hj, if_false]
    split
    · simp [hj]
    · split <;> simp [hj]

/-- The windows after `setCounts`: that of the client has QUOTA_WARN pending where the warning is given (R67). -/
theorem State.window_setCounts (c : ClientNo) (owned held : Nat) (w : WindowNo) :
    (s.setCounts c owned held).window w =
      if w = c.window then
        { s.window w with pending := (s.window w).pending ||| (s.session c).warnEvent owned held }
      else s.window w := by
  unfold State.setCounts Session.warnEvent Session.charge
  dsimp only
  split
  · simp only [State.window_raise, State.window_setSession]
    split
    · subst w; rfl
    · rfl
  · split <;> simp

/-! ### The queue -/

/-- A cell that is not queued has no entry to leave out. -/
theorem State.filter_of_not_queued {n : CellNo} (h : s.queued n = false) : s.queue.filter (fun e => e.cell != n) = s.queue := by
  rw [List.filter_eq_self]
  intro e he
  simp only [State.queued, List.any_eq_false, beq_iff_eq] at h
  simpa using h e he

/-- The queue after a placement: the cell's former entry, where it has one, is left out, and the new one stands at the tail
(R73, R74). -/
theorem State.place_queue (n : CellNo) (tag : Option Tag) :
    (s.place n tag).queue = s.queue.filter (fun e => e.cell != n) ++ [⟨n, tag⟩] := by
  unfold State.place
  dsimp only
  split
  · rfl
  · rename_i h
    rw [s.filter_of_not_queued (by simpa using h)]
    split <;> rfl

/-- The windows after a placement: WS has QUEUE_HIGH pending where an append brings the occupancy from 95 to 96 (R93). -/
theorem State.place_window (n : CellNo) (tag : Option Tag) (w : WindowNo) :
    (s.place n tag).window w =
      if w = .ws ∧ s.queued n = false ∧ s.queue.length + 1 = Config.highMark then (s.window w).raise .queueHigh
      else s.window w := by
  unfold State.place
  dsimp only
  split
  · rename_i h
    rw [if_neg (by simp [h])]
    rfl
  · rename_i h
    split
    · rename_i h'
      rw [State.window_raise]
      simp only [h, h', and_true, Bool.not_eq_true] at *
      split
      · simp_all [State.window]
      · simp_all [State.window]
    · rename_i h'
      rw [if_neg (by simp [h'])]
      rfl

/-- The cells after a value is set (R50, R92). -/
theorem State.cell_setValue (n : CellNo) (v : Colour) (tag : Option Tag) (j : CellNo) :
    (s.setValue n v tag).cell j =
      if j = n then
        { s.cell n with
          working := v
          visible := if (s.map (mapOf n)).mode = .direct then v else (s.cell n).visible }
      else s.cell j := by
  unfold State.setValue
  split <;> simp_all [State.cell_setCell]

/-- The queue after a value is set: as it was in a DIRECT map, and a placement in a DEFERRED one (R50, R92). -/
theorem State.setValue_queue (n : CellNo) (v : Colour) (tag : Option Tag) :
    (s.setValue n v tag).queue =
      if (s.map (mapOf n)).mode = .direct then s.queue
      else s.queue.filter (fun e => e.cell != n) ++ [⟨n, tag⟩] := by
  unfold State.setValue
  split <;> simp_all [State.place_queue]

/-- A window with no event set pending is as it was. -/
@[simp] theorem Window.signalled_zero (x : Window) : x.signalled 0#4 = x := by simp [Window.signalled]

/-- The windows after a value is set: WS has QUEUE_HIGH pending where the append calls for it (R93). -/
theorem State.setValue_window (n : CellNo) (v : Colour) (tag : Option Tag) (w : WindowNo) :
    (s.setValue n v tag).window w = if w = .ws then (s.window w).signalled (s.highEvent n) else s.window w := by
  unfold State.setValue State.highEvent
  by_cases hw : w = .ws
  · subst hw
    split
    · rename_i h
      simp [h]
    · rename_i h
      simp only [State.place_window, h, true_and, if_true]
      change (if s.queued n = false ∧ s.queue.length + 1 = Config.highMark then _ else _) = _
      by_cases hq : s.queued n = false ∧ s.queue.length = 95
      · rw [if_pos ⟨hq.1, by simp [hq.2, Config.highMark]⟩, if_pos hq]
        rfl
      · rw [if_neg (fun h => hq ⟨h.1, by have := h.2; simp only [Config.highMark] at this; omega⟩), if_neg hq]
        simp
  · split <;> simp [State.place_window, hw]

/-- The cells after entries are taken (R85, R90). -/
theorem State.cell_takeEntries (p : Entry → Bool) (j : CellNo) :
    (s.takeEntries p).cell j =
      if s.queue.any (fun e => e.cell == j && p e) then { s.cell j with visible := (s.cell j).working } else s.cell j := by
  change ((s.mapCells _).cell j) = _
  rw [State.cell_mapCells]

/-- The queue after entries are taken (R73, R85, R90). -/
@[simp] theorem State.takeEntries_queue (p : Entry → Bool) : (s.takeEntries p).queue = s.queue.filter (fun e => !p e) := rfl

/-! ### Cells -/

/-- The cells after a release (R11). -/
theorem State.cell_release (p : CellNo → Bool) (j : CellNo) :
    (s.release p).cell j = if p j then (s.cell j).become (releasedState s.cooling) else s.cell j := by
  change ((s.mapCells _).cell j) = _
  rw [State.cell_mapCells]
  rfl

/-- The queue after a release (R11). -/
@[simp] theorem State.release_queue (p : CellNo → Bool) : (s.release p).queue = s.detached p := rfl

/-- The cells after a countdown (R13). -/
@[simp] theorem State.cell_countdown (j : CellNo) : s.countdown.cell j = (s.cell j).cool := s.cell_mapCells _ j

/-- A countdown keeps both values. -/
@[simp] theorem Cell.cool_working (x : Cell) : x.cool.working = x.working := by unfold Cell.cool; split <;> rfl
@[simp] theorem Cell.cool_visible (x : Cell) : x.cool.visible = x.visible := by unfold Cell.cool; split <;> rfl

/-- The cells after references are dropped (R34, R123). -/
theorem State.cell_dropReferences (n : CellNo) (k : Nat) (j : CellNo) :
    (s.dropReferences n k).cell j =
      if j = n then
        (s.cell n).become (if s.references n ≤ k then releasedState s.cooling else .shared (s.references n - k))
      else s.cell j := by
  unfold State.dropReferences
  split
  · rw [State.cell_release]
    by_cases h : j = n <;> simp_all
  · rw [State.cell_setCell]
    by_cases h : j = n <;> simp_all [Cell.become]

/-- The queue after references are dropped (R34, R123). -/
theorem State.dropReferences_queue (n : CellNo) (k : Nat) :
    (s.dropReferences n k).queue = if s.references n ≤ k then s.detached (· == n) else s.queue := by
  unfold State.dropReferences
  split <;> simp_all

/-- The cells after a reference is added (R23, R24). -/
theorem State.cell_addReference (n : CellNo) (j : CellNo) :
    (s.addReference n).cell j = if j = n then (s.cell n).become (.shared (s.references n + 1)) else s.cell j := by
  unfold State.addReference
  rw [State.cell_setCell]
  rfl

/-! ### Records -/

/-- The slots after a record is placed (R59). -/
theorem State.holding_placeRecord (c : ClientNo) (n : CellNo) (k j : SlotNo) :
    (s.placeRecord c n k).holding j = if j = k then some ⟨c, n, 1⟩ else s.holding j := by
  unfold State.placeRecord
  rw [State.holding_setCounts, State.holding_setHolding]

/-- The session records after a record is placed (R64). -/
theorem State.session_placeRecord (c : ClientNo) (n : CellNo) (k : SlotNo) (j : ClientNo) :
    (s.placeRecord c n k).session j =
      if j = c then (s.session c).recount (s.session c).owned ((s.session c).held + 1) else s.session j := by
  unfold State.placeRecord
  rw [State.session_setCounts]
  simp

/-- The windows after a record is placed (R67). -/
theorem State.window_placeRecord (c : ClientNo) (n : CellNo) (k : SlotNo) (w : WindowNo) :
    (s.placeRecord c n k).window w =
      if w = c.window then
        { s.window w with
          pending := (s.window w).pending ||| (s.session c).warnEvent (s.session c).owned ((s.session c).held + 1) }
      else s.window w := by
  unfold State.placeRecord
  rw [State.window_setCounts]
  simp

/-- A charge that does not rise gives no warning (R67). -/
theorem Session.warnEvent_of_le {x : Session} {owned held : Nat} (h : owned + held ≤ x.owned + x.held) :
    x.warnEvent owned held = 0 := by
  unfold Session.warnEvent
  rw [if_neg (by omega)]

/-- What taking a record out of its slot makes of the whole state: the slot empty, its count off the cell's references, and its
unit off the charge (R34, R61, R123). -/
theorem State.removeRecord_eq {c : ClientNo} {k : SlotNo} {r : Holding} (h : s.holding k = some r) :
    s.removeRecord c k =
      ((s.setHolding k none).dropReferences r.cell r.count).setCounts c (s.session c).owned ((s.session c).held - 1) := by
  unfold State.removeRecord
  rw [h]

/-- The slots after a record is taken out (R60). -/
theorem State.holding_removeRecord (c : ClientNo) (k j : SlotNo) :
    (s.removeRecord c k).holding j = if j = k then none else s.holding j := by
  unfold State.removeRecord
  split
  · split
    · simp_all
    · rfl
  · rw [State.holding_setCounts, State.holding_dropReferences, State.holding_setHolding]

/-- The cells after an owned cell is given back (R51). -/
theorem State.cell_giveBackCell (c : ClientNo) (n j : CellNo) :
    (s.giveBackCell c n).cell j = if j = n then (s.cell n).become (releasedState s.cooling) else s.cell j := by
  unfold State.giveBackCell
  rw [State.cell_setCounts, State.cell_release]
  by_cases h : j = n <;> simp_all

/-- The queue after an owned cell is given back (R51). -/
@[simp] theorem State.giveBackCell_queue (c : ClientNo) (n : CellNo) :
    (s.giveBackCell c n).queue = s.detached (· == n) := by
  unfold State.giveBackCell
  simp

/-- The session records after an owned cell is given back (R64). -/
theorem State.session_giveBackCell (c : ClientNo) (n : CellNo) (j : ClientNo) :
    (s.giveBackCell c n).session j =
      if j = c then (s.session c).recount ((s.session c).owned - 1) (s.session c).held else s.session j := by
  unfold State.giveBackCell
  rw [State.session_setCounts]
  simp

/-! ### Posting -/

/-- A posted window (R106). -/
theorem Window.answer_eq (x : Window) (c : Command) (r : Reply) : x.answer c.code r = x.completed c r 0 := by
  simp [Window.answer, Window.raise, Window.completed]

/-- The windows after a result is posted (R106). -/
theorem State.window_post (w : WindowNo) (c : Command) (r : Reply) (j : WindowNo) :
    (s.post w c r).window j = if j = w then (s.window w).completed c r 0 else s.window j := by
  rw [← Window.answer_eq]
  exact s.window_setWindow w _ j

/-- The engine is free after a result is posted (R106). -/
@[simp] theorem State.post_work (w : WindowNo) (c : Command) (r : Reply) : (s.post w c r).work = none := rfl

/-- A post alone changes nothing but the window and the engine. -/
theorem State.onlyPosts_post (w : WindowNo) (c : Command) (r : Reply) : OnlyPosts s (s.post w c r) w c r where
  posts :=
    { window := by simp [State.window_post]
      others := fun j h => by simp [State.window_post, h]
      free := rfl }
  records := ⟨rfl, rfl, rfl, rfl⟩
  rest := ⟨rfl, rfl, rfl, rfl, rfl, rfl, rfl, rfl, rfl, rfl, rfl, rfl, rfl, rfl, rfl, rfl⟩

end Sys2Proof.Machine
end

