-- ==== Sys2Proof/Laws/Engine.lean ====
section
/-! SUPPORT. What the engine's completions and the judged accesses come to: the completion that a state is about to make, and
every completion that a row can make. -/

namespace Sys2Proof.Machine

variable {s : State}

/-! ### Completions -/

/-- The command that the engine executes is that of the window of its work in progress, held RUNNING there (R103, R105). -/
theorem State.running_eq_some {w : WindowNo} {h : Held} (hr : s.running? = some (w, h)) :
    s.work = some (.command w) ∧ (s.window w).slot = .running h := by
  unfold State.running? at hr
  split at hr
  · split at hr <;> simp_all
  · simp at hr
  · simp at hr

/-- The window and the held command of a client command in progress. -/
theorem RunsClient.running {c : ClientNo} {m : MapNo} {h : Held} (r : RunsClient s c m h) :
    s.running? = some (c.window, h) := by
  simp [State.running?, r.work, r.slot]

/-- The held command of a supervisor command in progress. -/
theorem RunsSupervisor.running {h : Held} (r : RunsSupervisor s h) : s.running? = some (.ws, h) := by
  simp [State.running?, r.work, r.slot]

/-- The completion of a client command in progress: its body in the bound map, and its result posted (R105, R106). -/
theorem State.completeClient_of_runs {c : ClientNo} {m : MapNo} {h : Held} (r : RunsClient s c m h)
    (body : ClientNo → MapNo → Held → State → State × Reply) :
    s.completeClient h.command body = (body c m h s).1.post c.window h.command (body c m h s).2 := by
  simp [State.completeClient, r.powered, r.running, r.session]

/-- The completion of a supervisor command in progress: its body, and its result posted (R105, R106). -/
theorem State.completeSupervisor_of_runs {h : Held} (r : RunsSupervisor s h) (body : Held → State → State × Reply) :
    s.completeSupervisor h.command body = (body h s).1.post .ws h.command (body h s).2 := by
  simp [State.completeSupervisor, r.powered, r.running]

/-- Everything that the row of a client command can do: nothing, a post of CLOSED for a session that is not OPEN, or the
completion of that command. -/
theorem State.completeClient_cases (s : State) (cmd : Command) (body : ClientNo → MapNo → Held → State → State × Reply) :
    s.completeClient cmd body = s ∨
      (∃ c h, s.resetHeld = false ∧ s.running? = some (ClientNo.window c, h) ∧ h.command = cmd ∧
        (s.session c).state.openMap? = none ∧
        s.completeClient cmd body = s.post (ClientNo.window c) cmd (.refusal .closed)) ∨
      ∃ c m h, RunsClient s c m h ∧ h.command = cmd ∧
        s.completeClient cmd body = (body c m h s).1.post (ClientNo.window c) cmd (body c m h s).2 := by
  unfold State.completeClient
  split
  · exact .inl rfl
  · rename_i hp
    split
    · exact .inl rfl
    · rename_i w held hr
      split
      · rename_i hw
        have hwc : w = ClientNo.window ⟨w.val, hw.1⟩ := Fin.ext rfl
        split
        · rename_i hm
          exact .inr (.inl ⟨⟨w.val, hw.1⟩, held, by simpa using hp, by rw [hr, ← hwc], hw.2, hm, by rw [← hwc]⟩)
        · rename_i m hm
          have hs := State.running_eq_some hr
          exact .inr (.inr ⟨⟨w.val, hw.1⟩, m, held,
            ⟨by simpa using hp, by rw [← hwc]; exact hs.1, by rw [← hwc]; exact hs.2, hm⟩, hw.2, by rw [← hwc]⟩)
      · exact .inl rfl

/-- Everything that the row of a supervisor command can do: nothing, or the completion of that command. -/
theorem State.completeSupervisor_cases (s : State) (cmd : Command) (body : Held → State → State × Reply) :
    s.completeSupervisor cmd body = s ∨
      ∃ h, RunsSupervisor s h ∧ h.command = cmd ∧ s.completeSupervisor cmd body = (body h s).1.post .ws cmd (body h s).2 := by
  unfold State.completeSupervisor
  split
  · exact .inl rfl
  · rename_i hp
    split
    · exact .inl rfl
    · rename_i w held hr
      split
      · rename_i hw
        obtain ⟨rfl, hc⟩ := hw
        have hs := State.running_eq_some hr
        exact .inr ⟨held, ⟨by simpa using hp, hs.1, hs.2⟩, hc, rfl⟩
      · exact .inl rfl

/-- The completion of a slice in progress (R122). -/
theorem execTeardownSlice_of_runs {c : ClientNo} (r : RunsSlice s c) :
    execTeardownSlice s = .next { slice c s with work := none } := by
  simp [execTeardownSlice, r.powered, r.work, r.busy, r.client]

/-! ### Accesses -/

/-- A permitted access (R100, R128). -/
theorem State.access_of_permitted {w : WindowNo} {b : MasterNo} (hp : s.resetHeld = false) (h : s.permitted w b = true)
    (o : Offset) (a : Access) : s.access w b o a = s.permittedAccess w o a := by
  simp [State.access, hp, h]

/-- A denied access (R101, R128). -/
theorem State.access_of_denied {w : WindowNo} {b : MasterNo} (hp : s.resetHeld = false) (h : s.permitted w b = false)
    (o : Offset) (a : Access) : s.access w b o a = s.deny w b o a := by
  simp [State.access, hp, h]

/-- An access to an address of a window (R154). -/
@[simp] theorem State.accessAt_some (w : WindowNo) (b : MasterNo) (o : Offset) (a : Access) :
    s.accessAt (some w) b o a = s.access w b o a := rfl

/-- A write to an address that names no window has no effect (R154). -/
@[simp] theorem State.accessAt_none_write (b : MasterNo) (o : Offset) (data : Word) :
    s.accessAt none b o (.write data) = s := rfl

/-- A read of an address that names no window returns 0 (R154), unless RESET is held (R146). -/
@[simp] theorem State.accessAt_none_read (b : MasterNo) (o : Offset) :
    s.accessAt none b o .read = if s.resetHeld then s else s.answerRead 0 := rfl

/-- A value of HA[7:4] names the window of that number (R154). -/
theorem windowAt_eq_some {k : WindowField} {w : WindowNo} : windowAt k = some w ↔ k.val = w.val := by
  unfold windowAt
  have := w.isLt
  split
  · simp [Fin.ext_iff]
  · simp only [reduceCtorEq, false_iff]
    omega

/-- The values of HA[7:4] from 9 on name no window (R154). -/
theorem windowAt_eq_none {k : WindowField} : windowAt k = none ↔ 9 ≤ k.val := by
  unfold windowAt
  split <;> simp <;> omega

/-- The binding of WS permits its own master alone (R128). -/
@[simp] theorem State.permitted_ws (s : State) (b : MasterNo) : s.permitted .ws b = (s.supMaster == b) := rfl

/-- The binding of a client window is that of its session (R100). -/
theorem State.permitted_client (s : State) (c : ClientNo) (b : MasterNo) :
    s.permitted (ClientNo.window c) b = (s.session c).state.master?.all (· == b) := by
  unfold State.permitted State.boundMaster
  rw [dif_pos (by simp)]
  simp only [ClientNo.window, Fin.val_castSucc, Fin.eta]
  cases (s.session c).state.master? <;> rfl

/-- A command write that a permitted master makes (R95 to R97). -/
theorem execCommandWrite_of_permitted {w : WindowNo} {b : MasterNo} (hp : s.resetHeld = false)
    (h : s.permitted w b = true) (data : Word) : execCommandWrite w b data s = .next (s.commandWrite w data) := by
  unfold execCommandWrite
  rw [State.access_of_permitted hp h]
  simp [State.permittedAccess, Reg.offset, regAt, State.writeReg]

end Sys2Proof.Machine
end

