-- ==== Sys2Proof/Laws/Searches.lean ====
section
/-! SUPPORT. Cell numbers, the arguments that name them, the searches over the tables, and the views of the queue after each
update. -/

namespace Sys2Proof.Machine

variable {s : State}

/-! ### Cell numbers (R1) -/

@[simp] theorem mapOf_cellOf (m : MapNo) (i : Index) : mapOf (cellOf m i) = m := by
  apply Fin.ext
  simp [mapOf, cellOf]
  omega

@[simp] theorem indexOf_cellOf (m : MapNo) (i : Index) : indexOf (cellOf m i) = i := by
  apply Fin.ext
  simp [indexOf, cellOf]

@[simp] theorem cellOf_mapOf_indexOf (n : CellNo) : cellOf (mapOf n) (indexOf n) = n := by
  apply Fin.ext
  simp only [cellOf, mapOf, indexOf]
  omega

/-- Within one map, cells stand in the order of their indices. -/
theorem cellOf_lt_cellOf {m : MapNo} {i j : Index} : cellOf m i < cellOf m j ↔ i < j := by
  change m.val * 256 + i.val < m.val * 256 + j.val ↔ i.val < j.val
  omega

theorem cellOf_inj {m : MapNo} {i j : Index} : cellOf m i = cellOf m j ↔ i = j :=
  ⟨fun h => by simpa using congrArg indexOf h, fun h => h ▸ rfl⟩

/-! ### Arguments -/

theorem indexArg_eq_some {w : Word} {i : Index} : indexArg w = some i ↔ w.toNat = i.val := by
  unfold indexArg
  split
  · simp [Fin.ext_iff]
  · have := i.isLt
    simp
    omega

theorem indexArg_eq_none {w : Word} : indexArg w = none ↔ 255 < w.toNat := by
  unfold indexArg
  split <;> simp <;> omega

theorem cellArg_eq_some {w : Word} {n : CellNo} : cellArg w = some n ↔ w.toNat = n.val := by
  unfold cellArg
  split
  · simp [Fin.ext_iff]
  · have := n.isLt
    simp
    omega

theorem cellArg_eq_none {w : Word} : cellArg w = none ↔ 1023 < w.toNat := by
  unfold cellArg
  split <;> simp <;> omega

theorem mapArg_eq_some {w : Word} {m : MapNo} : mapArg w = some m ↔ w.toNat = m.val := by
  unfold mapArg
  split
  · simp [Fin.ext_iff]
  · have := m.isLt
    simp
    omega

theorem mapArg_eq_none {w : Word} : mapArg w = none ↔ 3 < w.toNat := by
  unfold mapArg
  split <;> simp <;> omega

theorem clientArg_eq_some {w : Word} {c : ClientNo} : clientArg w = some c ↔ w.toNat = c.val := by
  unfold clientArg
  split
  · simp [Fin.ext_iff]
  · have := c.isLt
    simp
    omega

theorem clientArg_eq_none {w : Word} : clientArg w = none ↔ 7 < w.toNat := by
  unfold clientArg
  split <;> simp <;> omega

theorem colourArg_eq_none {w : Word} : colourArg w = none ↔ bits 31 30 w ≠ 0 := by
  unfold colourArg
  split <;> simp_all

/-! ### Searches -/

/-- The search of a map for a cell, index by index. -/
theorem State.lowestIn_eq_some {m : MapNo} {i : Index} {p : Cell → Bool} :
    s.lowestIn m p = some (cellOf m i) ↔ p (s.cell (cellOf m i)) ∧ ∀ j < i, p (s.cell (cellOf m j)) = false := by
  unfold State.lowestIn
  rw [lowest_eq_some]
  change ((mapOf (cellOf m i) == m && p (s.cell (cellOf m i))) = true ∧
    ∀ n < cellOf m i, (mapOf n == m && p (s.cell n)) = false) ↔ _
  constructor
  · rintro ⟨h, hlow⟩
    exact ⟨by simpa using h, fun j hj => by simpa using hlow (cellOf m j) (cellOf_lt_cellOf.mpr hj)⟩
  · rintro ⟨h, hlow⟩
    refine ⟨by simpa using h, fun n hn => ?_⟩
    by_cases hm : mapOf n = m
    · subst hm
      have := hlow (indexOf n) (cellOf_lt_cellOf (m := mapOf n) |>.mp (by simpa using hn))
      simpa using this
    · simp [hm]

theorem State.lowestIn_eq_none {m : MapNo} {p : Cell → Bool} :
    s.lowestIn m p = none ↔ ∀ i, p (s.cell (cellOf m i)) = false := by
  unfold State.lowestIn
  rw [lowest_eq_none]
  change (∀ n, (mapOf n == m && p (s.cell n)) = false) ↔ _
  constructor
  · intro h i
    simpa using h (cellOf m i)
  · intro h n
    by_cases hm : mapOf n = m
    · subst hm
      simpa using h (indexOf n)
    · simp [hm]

theorem State.lowestIn_map {m : MapNo} {p : Cell → Bool} {n : CellNo} (h : s.lowestIn m p = some n) :
    mapOf n = m ∧ p (s.cell n) := by
  have := (lowest_eq_some.mp h).1
  change (mapOf n == m && p (s.cell n)) = true at this
  simpa using this

theorem records_eq_true {c : ClientNo} {n : CellNo} {x : Option Holding} :
    records c n x = true ↔ ∃ r, x = some r ∧ r.client = c ∧ r.cell = n := by
  unfold records
  cases x <;> simp

/-- The slot that the record search finds holds the client's record on the cell. -/
theorem State.holding_of_findHolding {c : ClientNo} {n : CellNo} {k : SlotNo} (h : s.findHolding c n = some k) :
    ∃ r, s.holding k = some r ∧ r.client = c ∧ r.cell = n :=
  records_eq_true.mp (lowest_eq_some.mp h).1

/-- The slot that the slot search finds is empty. -/
theorem State.holding_of_emptySlot {k : SlotNo} (h : s.emptySlot = some k) : s.holding k = none := by
  have := (lowest_eq_some.mp h).1
  change (s.holding k).isNone = true at this
  simpa using this

theorem State.emptySlot_eq_none : s.emptySlot = none ↔ ∀ k, s.holding k ≠ none := by
  unfold State.emptySlot
  rw [lowest_eq_none]
  change (∀ k, (s.holding k).isNone = false) ↔ _
  simp [Option.isSome_iff_ne_none]

@[simp] theorem Cell.isFree_iff {x : Cell} : x.isFree = true ↔ x.state = .free := by simp [Cell.isFree]

@[simp] theorem Cell.ownedBy_iff {c : ClientNo} {x : Cell} : x.ownedBy c = true ↔ x.state = .owned c := by
  simp [Cell.ownedBy]

theorem Cell.isShared_iff {x : Cell} : x.isShared = true ↔ ∃ r, x.state = .shared r := by
  unfold Cell.isShared
  split <;> simp_all

theorem Cell.isCooling_iff {x : Cell} : x.isCooling = true ↔ ∃ k, x.state = .cooling k := by
  unfold Cell.isCooling
  split <;> simp_all

/-! ### Views of the queue

The queued field, the entry counts and the openness of batches read the queue and the session records alone. -/

theorem State.queued_congr {t : State} (h : t.queue = s.queue) : t.queued = s.queued := by
  funext n
  simp [State.queued, h]

theorem State.batchCount_congr {t : State} (h : t.queue = s.queue) : t.batchCount = s.batchCount := by
  funext n
  simp [State.batchCount, h]

theorem State.batchOpen_congr {t : State} (h : ∀ c, (t.session c).openBatch = (s.session c).openBatch) :
    t.batchOpen = s.batchOpen := by
  funext n
  simp [State.batchOpen, h]

theorem State.inOpenBatch_congr {t : State} (h : ∀ c, (t.session c).openBatch = (s.session c).openBatch) :
    t.inOpenBatch = s.inOpenBatch := by
  funext n
  simp [State.inOpenBatch, State.batchOpen_congr h]

@[simp] theorem State.queued_setCell (n : CellNo) (x : Cell) : (s.setCell n x).queued = s.queued := rfl
@[simp] theorem State.queued_mapCells (f : CellNo → Cell → Cell) : (s.mapCells f).queued = s.queued := rfl
@[simp] theorem State.queued_setSession (c : ClientNo) (x : Session) : (s.setSession c x).queued = s.queued := rfl
@[simp] theorem State.queued_setHolding (k : SlotNo) (x : Option Holding) : (s.setHolding k x).queued = s.queued := rfl
@[simp] theorem State.queued_setWindow (w : WindowNo) (x : Window) : (s.setWindow w x).queued = s.queued := rfl
@[simp] theorem State.inOpenBatch_setCell (n : CellNo) (x : Cell) : (s.setCell n x).inOpenBatch = s.inOpenBatch := rfl
@[simp] theorem State.inOpenBatch_mapCells (f : CellNo → Cell → Cell) : (s.mapCells f).inOpenBatch = s.inOpenBatch := rfl
@[simp] theorem State.inOpenBatch_setHolding (k : SlotNo) (x : Option Holding) :
    (s.setHolding k x).inOpenBatch = s.inOpenBatch := rfl

/-- A recount keeps the open batch. -/
@[simp] theorem State.inOpenBatch_setCounts (c : ClientNo) (owned held : Nat) :
    (s.setCounts c owned held).inOpenBatch = s.inOpenBatch :=
  State.inOpenBatch_congr fun d => by
    rw [State.session_setCounts]
    split
    · subst d; rfl
    · rfl

end Sys2Proof.Machine
end

