-- ==== Sys2Proof/Laws/Watch.lean ====
section
/-! SUPPORT. What the watch on BLANK takes and where it then stands (R151). -/

namespace Sys2Proof.Machine

variable {s : State} {low high : Nat}

/-- The watch takes an edge exactly where the stretch of the line holds one. -/
theorem takesEdge_iff : s.blank.takesEdge low high = true ↔ s.EdgeIn low high := by
  unfold BlankWatch.takesEdge BlankWatch.fall State.EdgeIn State.lowTime Config.blankPulse
  cases s.blank <;> by_cases h : low = 0 <;> simp [h]

/-- Where the watch stands after a stretch: a line that ends it low, a rise, or a line that was high already. -/
theorem watch_eq : s.blank.watch low high =
    match s.blank with
    | .low _ =>
      if high = 0 then .low (s.lowTime low)
      else if s.lowTime low < 40000 then .settled else if high < 40000 then .rising high else .settled
    | .rising elapsed =>
      if low = 0 then if elapsed + high < 40000 then .rising (elapsed + high) else .settled
      else if high = 0 then .low low
      else if low < 40000 then .settled else if high < 40000 then .rising high else .settled
    | .settled =>
      if low = 0 then .settled
      else if high = 0 then .low low
      else if low < 40000 then .settled else if high < 40000 then .rising high else .settled := by
  unfold BlankWatch.watch BlankWatch.rise BlankWatch.fall BlankWatch.stayHigh State.lowTime Config.blankPulse
  cases s.blank <;> by_cases h : low = 0 <;> simp [h]

/-- After an edge is taken the line is high, and gives no other before the next fall. -/
theorem watch_of_edge (h : s.EdgeIn low high) : s.blank.watch low high = .settled := by
  rw [watch_eq]
  unfold State.EdgeIn State.lowTime at *
  cases hb : s.blank <;> simp only [hb] at h ⊢ <;> split_ifs <;> first | rfl | (exfalso; simp at h; omega)

/-- A stretch that ends low leaves the low interval in progress. -/
theorem watch_of_low (h : ¬ s.EdgeIn low 0) :
    s.blank.watch low 0 = if low = 0 then s.blank else .low (s.lowTime low) := by
  rw [watch_eq]
  unfold State.EdgeIn State.lowTime at *
  cases hb : s.blank <;> by_cases hl : low = 0 <;> simp [hb, hl] at h ⊢
  exact h

/-- A rise that is not yet an edge: the watch times it on after a low interval of at least the minimum, and else waits for the
next fall. -/
theorem watch_of_rise (hh : 0 < high) (hr : 0 < low ∨ ∃ elapsed, s.blank = .low elapsed) (h : ¬ s.EdgeIn low high) :
    s.blank.watch low high = if s.lowTime low < 40000 then .settled else .rising high := by
  rw [watch_eq]
  unfold State.EdgeIn State.lowTime at *
  cases hb : s.blank <;> simp [hb] at h hr ⊢ <;> split_ifs <;> first | rfl | (exfalso; omega)

/-- A line that stays high with no fall is timed on while an edge may still come of it. -/
theorem watch_of_high (h : ¬ s.EdgeIn 0 high) :
    (∀ elapsed, s.blank = .rising elapsed → s.blank.watch 0 high = .rising (elapsed + high)) ∧
      (s.blank = .settled → s.blank.watch 0 high = .settled) := by
  refine ⟨fun e he => ?_, fun he => by rw [watch_eq, he, if_pos rfl]⟩
  have : e + high < 40000 := Nat.lt_of_not_le fun hx => h (.inr ⟨rfl, e, he, hx⟩)
  rw [watch_eq, he]
  simp only [if_pos, this]

end Sys2Proof.Machine
end

