-- ==== Sys2Proof/Tests/Slice0.lean ====
section
/-! SUPPORT. The model's own tests: the refusals of `Instr.wellFormed`, the words that the spec works out, small single steps, and
for every statement with hypotheses a state and operands that meet them, clause by clause at the boundary values. -/

namespace Sys2Proof.Tests

-- One proof at a time: the many short evaluations below would else each take a thread.
set_option Elab.async false

open Sys2Proof.Machine

/-! ### A small lawful state -/

def red : Colour := ⟨1, 0, 0⟩
def green : Colour := ⟨0, 1, 0⟩
def blue : Colour := ⟨0, 0, 1⟩

/-- Clients 0 and 1 are OPEN on map 0, for masters 1 and 2, and client 2 on the DIRECT map 1, for master 3. Client 0 owns cells 0
and 4, with cell 0 queued in its open batch 1, and holds cell 1; client 1 owns cell 5 and client 2 cell 256; cell 2 is FIXED with
its value still queued, and cell 3 is COOLING. BLANK has been low for 30 ns. A READ and a lookup wait. -/
def busy : State where
  cells := ((((((Vector.replicate 1024 Cell.reset).set 0 ⟨.owned 0, red, .black⟩).set 1 ⟨.shared 1, green, green⟩).set 2
    ⟨.fixed, blue, .black⟩).set 3 ⟨.cooling 1, .black, .black⟩).set 4 ⟨.owned 0, .black, .black⟩ |>.set 5
    ⟨.owned 1, .black, .black⟩).set 256 ⟨.owned 2, .black, .black⟩
  maps := (Vector.replicate 4 MapRecord.reset).set 1 ⟨.direct, false⟩
  holdings := (Vector.replicate 512 none).set 0 (some ⟨0, 1, 1⟩)
  queue := [⟨0, some ⟨0, 1⟩⟩, ⟨2, none⟩]
  budget := 64
  cooling := 1
  sessions := (((Vector.replicate 8 Session.reset).set 0 ⟨.opened 0 1, 8, 4, true, 2, 1, some 1, 2⟩).set 1
    ⟨.opened 0 2, 8, 0, false, 1, 0, none, 1⟩).set 2 ⟨.opened 1 3, 8, 0, false, 1, 0, none, 1⟩
  work := none
  lastServed := 7
  sliceTurn := false
  teardownBusy := false
  teardownClient := 0
  windows := Vector.replicate 9 Window.reset
  supMaster := 0
  fault := none
  more := false
  cursor := .reset
  scanResult := .black
  blank := .low 30000
  resetHeld := false
  readData := none
  pending := [.commandWrite 0 1 0x08, .lookup 0 1 2500 8000]

/-- A property of every cell, read off the table in one pass. -/
theorem all_cells {s : State} (p : CellNo → Cell → Bool) (h : lowest (fun n x => !p n x) s.cells = none) (n : CellNo) :
    p n (s.cell n) = true := by
  simpa [State.cell] using lowest_eq_none.mp h n

/-- A property of every slot, read off the table in one pass. -/
theorem all_slots {s : State} (p : SlotNo → Option Holding → Bool) (h : lowest (fun k x => !p k x) s.holdings = none)
    (k : SlotNo) : p k (s.holding k) = true := by
  simpa [State.holding] using lowest_eq_none.mp h k

theorem busy_ranges : RangesHold busy where
  budget := by decide
  cooling := by decide
  remaining n k h := by
    have := all_cells (s := busy) (fun _ x => x.state.coolingField ≤ 3 && (x.state.coolingField != 0 || !x.isCooling)) (by decide +kernel) n
    simp [CellState.coolingField, Cell.isCooling, h] at this
    exact ⟨by omega, this.1⟩
  references n r h := by
    have := all_cells (s := busy) (fun _ x => !x.isShared || x.state.referencesField == 1) (by decide +kernel) n
    simp [Cell.isShared, CellState.referencesField, h] at this
    omega
  count k r h := by
    have := all_slots (s := busy) (fun _ x => x.all fun r => r.count == 1) (by decide +kernel) k
    simp only [h, Option.all_some, beq_iff_eq] at this
    simp [this, Config.holdLimit]
  tagSerial e he t ht := by
    have : ∀ e ∈ busy.queue, ∀ t ∈ e.tag, 1 ≤ t.serial ∧ t.serial ≤ Config.serialLimit := by decide +kernel
    exact this e he t ht
  quota := by decide +kernel
  nextSerial := by decide +kernel
  openSerial c k h := by
    have : ∀ c, ∀ k ∈ (busy.session c).openBatch, 1 ≤ k ∧ k ≤ Config.serialLimit := by decide +kernel
    exact this c k h
  more _ := rfl
  position := by decide
  capture _ := rfl
  rising e h := by cases h

theorem busy_engine : EngineHolds busy where
  running := by decide +kernel
  command w h hh := by
    have : ∀ w, (busy.window w).slot.held? = none := by decide +kernel
    simp [this w] at hh
  session c h hh := by
    have : ∀ w, (busy.window w).slot.held? = none := by decide +kernel
    simp [this] at hh
  slice h := by cases h
  closing := by decide +kernel

/-- The one holding record of `busy`. -/
theorem busy_record (k : SlotNo) (r : Holding) (h : busy.holding k = some r) : k = 0 ∧ r = ⟨0, 1, 1⟩ := by
  have := all_slots (s := busy) (fun k x => x.isNone || (decide (k = 0) && x == some ⟨0, 1, 1⟩)) (by decide +kernel) k
  simpa [h] using this

theorem busy_ledger : LedgerHolds busy where
  owner n c h := by
    have := all_cells (s := busy) (fun n x =>
      match x.state with
      | .owned c => (busy.session c).state.map? == some (mapOf n)
      | .free | .shared _ | .fixed | .cooling _ => true) (by decide +kernel) n
    simpa only [h, beq_iff_eq] using this
  record k r h := by
    obtain ⟨rfl, rfl⟩ := busy_record k r h
    decide +kernel
  oneRecord k k' r r' h h' _ _ := (busy_record k r h).1.trans (busy_record k' r' h').1.symm
  references n := by
    have hs : busy.holdings.toList = some ⟨0, 1, 1⟩ :: List.replicate 511 none := by decide +kernel
    have := all_cells (s := busy) (fun n x => x.state.referencesField == if (1 : CellNo) = n then 1 else 0) (by decide +kernel) n
    rw [State.countsOn, hs, List.map_cons, List.map_replicate, List.sum_cons, List.sum_replicate]
    rw [smul_zero, Nat.add_zero]
    exact beq_iff_eq.mp this
  shared n r h := by
    have := all_cells (s := busy) (fun _ x => !x.isShared || x.state.referencesField == 1) (by decide +kernel) n
    simp [Cell.isShared, CellState.referencesField, h] at this
    omega
  owned := by decide +kernel
  held := by decide +kernel
  quota := by decide +kernel
  armed := by decide +kernel
  oneValue n n' h h' _ _ := by
    have hc := all_cells (s := busy) (fun n x => !x.isShared || decide (n = 1)) (by decide +kernel)
    have h1 := hc n
    have h2 := hc n'
    simp [h] at h1
    simp [h'] at h2
    rw [h1, h2]

theorem busy_queue : QueueHolds busy where
  length := by decide
  once := by decide
  deferred := by decide +kernel
  ahead n h := by
    have := all_cells (s := busy) (fun n x => x.working == x.visible || n == 0 || n == 2) (by decide +kernel) n
    simp [h] at this
    rcases this with rfl | rfl <;> decide
  batch t := by
    have : busy.batchCount t ≤ busy.queue.length := List.countP_le_length
    exact this.trans (by decide)
  oneMap := by decide +kernel
  member e he t ht _ := by
    have : ∀ e ∈ busy.queue, ∀ t ∈ e.tag, (busy.cell e.cell).state = .owned t.client := by decide +kernel
    exact this e he t ht
  opener c k h := by
    have : ∀ c, (busy.session c).openBatch ≠ none → c = 0 := by decide +kernel
    obtain rfl := this c (by simp [h])
    exact ⟨0, 1, by decide +kernel, by decide +kernel⟩

theorem busy_lawful : Lawful busy := ⟨busy_ranges, busy_engine, busy_ledger, busy_queue⟩

/-! ### States in which the engine is about to complete a command -/

/-- Client `c`'s command, RUNNING. -/
def run (c : ClientNo) (cmd : Command) (a0 a1 a2 : Word) (s : State) : State :=
  { s.setWindow c.window { s.window c.window with slot := .running ⟨cmd, a0, a1, a2⟩ } with work := some (.command c.window) }

/-- A supervisor command, RUNNING. -/
def runWs (cmd : Command) (a0 a1 a2 : Word) (s : State) : State :=
  { s.setWindow .ws { s.window .ws with slot := .running ⟨cmd, a0, a1, a2⟩ } with work := some (.command .ws) }

theorem runsC {s : State} {c : ClientNo} {m : MapNo} (cmd : Command) (a0 a1 a2 : Word) (hp : s.resetHeld = false)
    (ho : (s.session c).state.openMap? = some m) : RunsClient (run c cmd a0 a1 a2 s) c m ⟨cmd, a0, a1, a2⟩ where
  powered := hp
  work := rfl
  slot := by simp [run, State.window, State.setWindow]
  session := ho

theorem runsS {s : State} (cmd : Command) (a0 a1 a2 : Word) (hp : s.resetHeld = false) :
    RunsSupervisor (runWs cmd a0 a1 a2 s) ⟨cmd, a0, a1, a2⟩ where
  powered := hp
  work := rfl
  slot := by simp [runWs, State.window, State.setWindow]

/-- The engine runs this command for client 0 on map 0. -/
abbrev Runs0 (cmd : Command) (a0 a1 a2 : Word) (s : State) : Prop :=
  RunsClient (run 0 cmd a0 a1 a2 s) 0 0 ⟨cmd, a0, a1, a2⟩

/-- The engine runs this command for WS. -/
abbrev RunsW (cmd : Command) (a0 a1 a2 : Word) (s : State) : Prop :=
  RunsSupervisor (runWs cmd a0 a1 a2 s) ⟨cmd, a0, a1, a2⟩

def frozen : State := busy.setMap 0 ⟨.deferred, true⟩
def noQuota : State := busy.setSession 0 { busy.session 0 with quota := 3 }
def fullTable : State := { busy with holdings := Vector.replicate 512 (some ⟨1, 1, 1⟩) }
def queueOf (e : Entry) (k : Nat) : State := { busy with queue := List.replicate k e }
def allCells (x : CellState) : State := { busy with cells := Vector.replicate 1024 ⟨x, .black, .black⟩ }

theorem frozen_is : (frozen.map 0).frozen = true ∧ (busy.map 0).frozen = false := by decide +kernel

/-! ### Witnesses: the part as a whole -/

/-- StepTakesTheFront: a queue with a command at its front, and an empty queue. -/
theorem witness_StepTakesTheFront :
    busy.pending = .commandWrite 0 1 0x08 :: [.lookup 0 1 2500 8000] ∧ (State.powerOn 0).pending = [] := ⟨rfl, rfl⟩

/-- The state after a command that answers a next state. -/
def after (i : Instr) (s : State) : State :=
  match exec i s with
  | .next t => t
  | .fault _ | .refused _ => s

/-- StepKeepsRanges (both clauses, cell 1 being SHARED), StepKeepsEngine, StepKeepsLedger and StepKeepsLaws: a lawful state whose
step changes it. -/
theorem witness_StepKeeps : (Lawful busy ∧ RangesHold busy ∧ EngineHolds busy ∧ LedgerHolds busy ∧ QueueHolds busy) ∧
    ∃ t, step busy = .next t ∧ (t.window 0).slot = .waiting ⟨.read, 0, 0, 0⟩ :=
  ⟨⟨busy_lawful, busy_ranges, busy_engine, busy_ledger, busy_queue⟩, _, rfl, by decide +kernel⟩

/-- CellTransitions: a countdown that frees cell 3. -/
theorem witness_CellTransitions : LedgerHolds busy ∧ Genuine .coolingExpiry busy ∧
    ∃ t, exec .coolingExpiry busy = .next t ∧ (busy.cell 3).state = .cooling 1 ∧ (t.cell 3).state = .free :=
  ⟨busy_ledger, ⟨rfl, fun _ _ _ _ h => by cases h⟩, _, rfl, by decide +kernel, by decide +kernel⟩

/-- SessionTransitions: a PART_RESET that closes session 0. -/
theorem witness_SessionTransitions : EngineHolds busy ∧ Genuine (.partReset 0) busy ∧
    ∃ t, exec (.partReset 0) busy = .next t ∧ (busy.session 0).state = .opened 0 1 ∧ (t.session 0).state = .closed :=
  ⟨busy_engine, ⟨rfl, fun _ _ _ _ h => by cases h⟩, _, rfl, by decide +kernel, by decide +kernel⟩

/-- VisibleChanges: a frame boundary that shows cell 2. -/
theorem witness_VisibleChanges :
    ∃ t, exec (.blankStartEdge 40000 40000) busy = .next t ∧ (t.cell 2).visible ≠ (busy.cell 2).visible :=
  ⟨_, rfl, by decide +kernel⟩

/-- The part with RESET held. -/
def inReset : State := { busy with resetHeld := true }

/-- ScanAndBindingChanges: a lookup that changes the scan result, and a release that changes the binding. -/
theorem witness_ScanAndBindingChanges :
    (∃ t, exec (.lookup 0 1 2500 8000) busy = .next t ∧ t.scanResult ≠ busy.scanResult) ∧
    ∃ t, exec (.resetRelease 3) inReset = .next t ∧ t.supMaster ≠ inReset.supMaster :=
  ⟨⟨_, rfl, by decide +kernel⟩, _, rfl, by decide +kernel⟩

/-- SearchesFindTheLowest: the record search of a state whose accounts agree finds slot 0. -/
theorem witness_SearchesFindTheLowest : LedgerHolds busy ∧ busy.findHolding 0 1 = some 0 := ⟨busy_ledger, by decide +kernel⟩

/-! ### Witnesses: command writes and the engine -/

theorem not_stranger {s : State} {w : WindowNo} {b : MasterNo} (h : (w != .ws || s.supMaster == b) = true)
    (h' : ∀ c : ClientNo, w = c.window → ∀ x ∈ (s.session c).state.master?, x = b) : ¬ s.IsStranger w b := by
  rintro (⟨rfl, hn⟩ | ⟨c, x, rfl, hx, hn⟩)
  · simp [hn] at h
  · exact hn (h' c rfl x hx)

/-- CommandWriteIsJudged: a RUNNING slot; an unknown code in a client window and in WS; a session that is not OPEN, with the last
code of the client windows; and a permitted write that is accepted, in a client window and with the first code of WS. -/
theorem witness_CommandWriteIsJudged :
    (busy.resetHeld = false ∧ ¬ busy.IsStranger 0 1 ∧ ¬ busy.IsStranger 3 5 ∧ ¬ busy.IsStranger .ws 0) ∧
    (((run 0 .query 0 0 0 busy).window 0).slot.held? ≠ none ∧ (Instr.commandWrite 0 1 0x0B).wellFormed = true) ∧
    ((busy.window 0).slot.held? = none ∧ commandAt 0 (BitVec.setWidth 8 (0x0C : Word)) = none ∧
      commandAt .ws (BitVec.setWidth 8 (0x19 : Word)) = none ∧ (Instr.commandWrite .ws 0 0x19).wellFormed = true) ∧
    (commandAt 3 (BitVec.setWidth 8 (0x0B : Word)) = some .batchClose ∧ (3 : WindowNo) = ClientNo.window 3 ∧
      (busy.session 3).state.isOpen = false) ∧
    (commandAt 0 (BitVec.setWidth 8 (0x0B : Word)) = some .batchClose ∧ (busy.session 0).state.isOpen = true ∧
      commandAt .ws (BitVec.setWidth 8 (0x10 : Word)) = some .clientOpen ∧ ∀ c, WindowNo.ws ≠ ClientNo.window c) :=
  ⟨⟨rfl, not_stranger (by decide) (by decide +kernel), not_stranger (by decide) (by decide +kernel),
    not_stranger (by decide) (by decide +kernel)⟩, by decide +kernel, by decide +kernel, by decide +kernel, by decide +kernel⟩

/-- PartResetState. -/
theorem witness_PartResetState : busy.resetHeld = false ∧ busy.supMaster = 0 := ⟨rfl, rfl⟩

/-- A state with a command WAITING in a window. -/
def waiting (w : WindowNo) (s : State) : State := s.setWindow w { s.window w with slot := .waiting ⟨.query, 0, 0, 0⟩ }

/-- `busy` with client 0's session CLOSING. -/
def closing : State :=
  { busy.setSession 0 { busy.session 0 with state := .closing 0 1, openBatch := none } with
    teardownBusy := true
    teardownClient := 0
    sliceTurn := true }

/-- EngineTakesInOrder: a supervisor command; a slice on its turn; a client command, with window 7 (the last served) and window 2
both waiting and 2 reached first; a slice with no command; and nothing. -/
theorem witness_EngineTakesInOrder :
    (busy.resetHeld = false ∧ busy.work = none ∧ closing.resetHeld = false ∧ closing.work = none) ∧
    ((waiting .ws busy).window .ws).slot = .waiting ⟨.query, 0, 0, 0⟩ ∧
    ((closing.window .ws).slot.isWaiting = false ∧ closing.teardownBusy = true ∧ closing.sliceTurn = true) ∧
    (((waiting 2 (waiting 7 busy)).window .ws).slot.isWaiting = false ∧ busy.teardownBusy = false ∧
      ((waiting 2 (waiting 7 busy)).window (ClientNo.window 2)).slot = .waiting ⟨.query, 0, 0, 0⟩ ∧
      ∀ c' : ClientNo, ((waiting 2 (waiting 7 busy)).window c'.window).slot.isWaiting →
        ((2 : ClientNo) - busy.lastServed - 1) ≤ (c' - busy.lastServed - 1)) ∧
    ({ closing with sliceTurn := false }.teardownBusy = true ∧
      ∀ c : ClientNo, ({ closing with sliceTurn := false }.window c.window).slot.isWaiting = false) ∧
    ∀ c : ClientNo, (busy.window c.window).slot.isWaiting = false := by
  refine ⟨⟨rfl, rfl, rfl, rfl⟩, ?_⟩
  decide +kernel

/-! ### Witnesses: shared cells -/

/-- AllocSharedReuses: the match at coarseness 0 and 6, and each branch of taking a reference: a record of count 254 and of 255,
no record with a slot, at the quota, and with a full table. -/
theorem witness_AllocSharedReuses :
    (Runs0 .allocShared 0x400 0 0 busy ∧ Runs0 .allocShared 0x400 6 0 busy ∧ (busy.map 0).frozen = false) ∧
    (colourArg 0x400 = some green ∧ (run 0 .allocShared 0x400 0 0 busy).findMatch 0 0 green = some 1 ∧
      (run 0 .allocShared 0x400 6 0 busy).findMatch 0 6 green = some 1) ∧
    (busy.findHolding 0 1 = some 0 ∧ (busy.setHolding 0 (some ⟨0, 1, 254⟩)).recordCount 0 = 254 ∧
      (busy.setHolding 0 (some ⟨0, 1, 255⟩)).recordCount 0 = 255) ∧
    (RunsClient (run 1 .allocShared 0x400 0 0 busy) 1 0 ⟨.allocShared, 0x400, 0, 0⟩ ∧ busy.findHolding 1 1 = none ∧
      busy.emptySlot = some 1) ∧
    ((busy.setHolding 0 none).findHolding 0 1 = none ∧ (noQuota.session 0).quota < (noQuota.session 0).charge + 1) ∧
    (fullTable.findHolding 0 1 = none ∧ fullTable.emptySlot = none) := by
  refine ⟨⟨runsC _ _ _ _ rfl (by decide +kernel), runsC _ _ _ _ rfl (by decide +kernel), by decide +kernel⟩,
    ⟨by decide +kernel, by decide +kernel, by decide +kernel⟩, by decide +kernel,
    ⟨runsC _ _ _ _ rfl (by decide +kernel), by decide +kernel, by decide +kernel⟩, by decide +kernel, by decide +kernel⟩

/-- AllocSharedRefuses: a frozen map; coarseness 7; bit 30 of the value; and, for a white that matches nothing at coarseness 6,
the quota, the full table, a map with COOLING cells and none FREE, a map of FIXED cells, and a queue of 128 entries. -/
theorem witness_AllocSharedRefuses :
    (Runs0 .allocShared 0 7 0 frozen ∧ (frozen.map 0).frozen = true) ∧
    (Runs0 .allocShared 0 7 0 busy ∧ Runs0 .allocShared 0x40000000 6 0 busy ∧ 6 < (7 : Word).toNat ∧
      bits 31 30 0x40000000 ≠ 0 ∧ (busy.map 0).frozen = false) ∧
    (colourArg 0x3FFFFFFF = some ⟨1023, 1023, 1023⟩ ∧ Runs0 .allocShared 0x3FFFFFFF 6 0 noQuota ∧
      noQuota.findMatch 0 6 ⟨1023, 1023, 1023⟩ = none ∧ (noQuota.session 0).quota < (noQuota.session 0).charge + 1) ∧
    (Runs0 .allocShared 0x3FFFFFFF 6 0 fullTable ∧ fullTable.findMatch 0 6 ⟨1023, 1023, 1023⟩ = none ∧
      (fullTable.session 0).charge + 1 ≤ (fullTable.session 0).quota ∧ ∀ k, fullTable.holding k ≠ none) ∧
    (Runs0 .allocShared 0x3FFFFFFF 6 0 (allCells (.cooling 1)) ∧
      (allCells (.cooling 1)).findMatch 0 6 ⟨1023, 1023, 1023⟩ = none ∧ (allCells (.cooling 1)).holding 1 = none ∧
      (∀ i, ((allCells (.cooling 1)).cell (cellOf 0 i)).state ≠ .free) ∧
      ((allCells (.cooling 1)).cell (cellOf 0 0)).isCooling) ∧
    (Runs0 .allocShared 0x3FFFFFFF 6 0 (allCells .fixed) ∧ (allCells .fixed).findMatch 0 6 ⟨1023, 1023, 1023⟩ = none ∧
      (∀ i, ((allCells .fixed).cell (cellOf 0 i)).state ≠ .free) ∧
      ∀ i, ((allCells .fixed).cell (cellOf 0 i)).isCooling = false) ∧
    (Runs0 .allocShared 0x3FFFFFFF 6 0 (queueOf ⟨2, none⟩ 128) ∧ (busy.cell (cellOf 0 6)).state = .free ∧
      (∀ j < (6 : Index), (busy.cell (cellOf 0 j)).state ≠ .free) ∧ (busy.map 0).mode = .deferred ∧
      (queueOf ⟨2, none⟩ 128).queued (cellOf 0 6) = false ∧ 128 ≤ (queueOf ⟨2, none⟩ 128).queue.length) := by
  refine ⟨⟨runsC _ _ _ _ rfl (by decide +kernel), by decide +kernel⟩,
    ⟨runsC _ _ _ _ rfl (by decide +kernel), runsC _ _ _ _ rfl (by decide +kernel), by decide +kernel⟩,
    ⟨by decide +kernel, runsC _ _ _ _ rfl (by decide +kernel), by decide +kernel, by decide +kernel⟩,
    ⟨runsC _ _ _ _ rfl (by decide +kernel), by decide +kernel, by decide +kernel, fun k => by
      simp [fullTable, State.holding]⟩,
    ⟨runsC _ _ _ _ rfl (by decide +kernel), by decide +kernel, by decide +kernel, fun i => by
      simp [allCells, State.cell], by simp [allCells, State.cell, Cell.isCooling]⟩,
    ⟨runsC _ _ _ _ rfl (by decide +kernel), by decide +kernel, fun i => by simp [allCells, State.cell], fun i => by
      simp [allCells, State.cell, Cell.isCooling]⟩,
    runsC _ _ _ _ rfl (by decide +kernel), by decide +kernel⟩

/-- AllocSharedMakes: the lowest FREE cell of a DEFERRED map with 127 entries queued, and of a DIRECT map. -/
theorem witness_AllocSharedMakes :
    (Runs0 .allocShared 0x3FFFFFFF 6 0 (queueOf ⟨2, none⟩ 127) ∧ (busy.map 0).frozen = false ∧
      colourArg 0x3FFFFFFF = some ⟨1023, 1023, 1023⟩ ∧ busy.findMatch 0 6 ⟨1023, 1023, 1023⟩ = none ∧
      (busy.session 0).charge + 1 ≤ (busy.session 0).quota ∧ busy.emptySlot = some 1 ∧
      (busy.cell (cellOf 0 6)).state = .free ∧ (∀ j < (6 : Index), (busy.cell (cellOf 0 j)).state ≠ .free) ∧
      (queueOf ⟨2, none⟩ 127).queue.length < 128) ∧
    (RunsClient (run 2 .allocShared 0x400 0 0 busy) 2 1 ⟨.allocShared, 0x400, 0, 0⟩ ∧ (busy.map 1).mode = .direct ∧
      (busy.map 1).frozen = false ∧ busy.findMatch 1 0 green = none ∧
      (busy.session 2).charge + 1 ≤ (busy.session 2).quota ∧ (busy.cell (cellOf 1 1)).state = .free ∧
      ∀ j < (1 : Index), (busy.cell (cellOf 1 j)).state ≠ .free) := by
  refine ⟨⟨runsC _ _ _ _ rfl (by decide +kernel), by decide +kernel⟩, runsC _ _ _ _ rfl (by decide +kernel), by decide +kernel⟩

/-- HoldTakesReference: a frozen map, index 256, index 255 of a FREE cell, and a SHARED cell. -/
theorem witness_HoldTakesReference :
    (Runs0 .hold 256 0 0 frozen ∧ (frozen.map 0).frozen = true) ∧
    (Runs0 .hold 256 0 0 busy ∧ (busy.map 0).frozen = false ∧ 255 < (256 : Word).toNat) ∧
    (Runs0 .hold 255 0 0 busy ∧ (255 : Word).toNat = (255 : Index).val ∧ (busy.cell (cellOf 0 255)).isShared = false) ∧
    (Runs0 .hold 1 0 0 busy ∧ (busy.cell (cellOf 0 1)).isShared = true) := by
  refine ⟨⟨runsC _ _ _ _ rfl (by decide +kernel), by decide +kernel⟩, ⟨runsC _ _ _ _ rfl (by decide +kernel), by decide +kernel⟩,
    ⟨runsC _ _ _ _ rfl (by decide +kernel), by decide +kernel⟩, runsC _ _ _ _ rfl (by decide +kernel), by decide +kernel⟩

/-- FreeRefuses: a frozen map, index 256, a SHARED cell that client 1 has no record on, and index 255 of a FREE cell. -/
theorem witness_FreeRefuses :
    (Runs0 .free 256 0 0 frozen ∧ (frozen.map 0).frozen = true) ∧
    (Runs0 .free 256 0 0 busy ∧ (busy.map 0).frozen = false ∧ 255 < (256 : Word).toNat) ∧
    (RunsClient (run 1 .free 1 0 0 busy) 1 0 ⟨.free, 1, 0, 0⟩ ∧ (busy.cell (cellOf 0 1)).isShared = true ∧
      busy.findHolding 1 (cellOf 0 1) = none) ∧
    (Runs0 .free 255 0 0 busy ∧ (busy.cell (cellOf 0 255)).isShared = false ∧
      (busy.cell (cellOf 0 255)).state ≠ .owned 0) := by
  refine ⟨⟨runsC _ _ _ _ rfl (by decide +kernel), by decide +kernel⟩, ⟨runsC _ _ _ _ rfl (by decide +kernel), by decide +kernel⟩,
    ⟨runsC _ _ _ _ rfl (by decide +kernel), by decide +kernel⟩, runsC _ _ _ _ rfl (by decide +kernel), by decide +kernel⟩

/-- `busy` with a second reference on cell 1, counted on client 0's record. -/
def heldTwice : State := (busy.setCell 1 ⟨.shared 2, green, green⟩).setHolding 0 (some ⟨0, 1, 2⟩)

/-- FreeShared: the last reference of a record and of a cell, and one of two. -/
theorem witness_FreeShared :
    (Runs0 .free 1 0 0 busy ∧ (busy.map 0).frozen = false ∧ (busy.cell (cellOf 0 1)).state = .shared 1 ∧
      busy.findHolding 0 (cellOf 0 1) = some 0 ∧ busy.holding 0 = some ⟨0, 1, 1⟩) ∧
    (Runs0 .free 1 0 0 heldTwice ∧ (heldTwice.cell (cellOf 0 1)).state = .shared 2 ∧
      heldTwice.findHolding 0 (cellOf 0 1) = some 0 ∧ heldTwice.holding 0 = some ⟨0, 1, 2⟩) := by
  refine ⟨⟨runsC _ _ _ _ rfl (by decide +kernel), by decide +kernel⟩, runsC _ _ _ _ rfl (by decide +kernel), by decide +kernel⟩

/-- FreePrivate. -/
theorem witness_FreePrivate :
    Runs0 .free 0 0 0 busy ∧ (busy.map 0).frozen = false ∧ (busy.cell (cellOf 0 0)).state = .owned 0 :=
  ⟨runsC _ _ _ _ rfl (by decide +kernel), by decide +kernel⟩

/-- `busy` with cell 4's value that of the SHARED cell 1. -/
def twoGreens : State := busy.setCell 4 ⟨.owned 0, green, green⟩

/-- PublishRefuses: a frozen map, index 256, another client's cell, a FREE cell at index 255, a cell in the open batch, the value
of a SHARED cell, and a full table. -/
theorem witness_PublishRefuses :
    (Runs0 .publish 256 0 0 frozen ∧ (frozen.map 0).frozen = true) ∧
    (Runs0 .publish 256 0 0 busy ∧ (busy.map 0).frozen = false) ∧
    (Runs0 .publish 5 0 0 busy ∧ (busy.cell (cellOf 0 5)).state = .owned 1) ∧
    (Runs0 .publish 255 0 0 busy ∧ (busy.cell (cellOf 0 255)).state = .free) ∧
    (Runs0 .publish 0 0 0 busy ∧ (busy.cell (cellOf 0 0)).state = .owned 0 ∧ busy.cellInOpenBatch (cellOf 0 0) = true) ∧
    (Runs0 .publish 4 0 0 twoGreens ∧ twoGreens.cellInOpenBatch (cellOf 0 4) = false ∧
      (twoGreens.cell (cellOf 0 4)).state = .owned 0 ∧ (twoGreens.cell (cellOf 0 1)).isShared = true ∧
      (twoGreens.cell (cellOf 0 1)).working = (twoGreens.cell (cellOf 0 4)).working ∧
      ∀ j' < (1 : Index), (twoGreens.cell (cellOf 0 j')).isShared →
        (twoGreens.cell (cellOf 0 j')).working ≠ (twoGreens.cell (cellOf 0 4)).working) ∧
    (Runs0 .publish 4 0 0 fullTable ∧ (fullTable.cell (cellOf 0 4)).state = .owned 0 ∧
      fullTable.cellInOpenBatch (cellOf 0 4) = false ∧ ∀ k, fullTable.holding k ≠ none) := by
  refine ⟨⟨runsC _ _ _ _ rfl (by decide +kernel), by decide +kernel⟩, ⟨runsC _ _ _ _ rfl (by decide +kernel), by decide +kernel⟩,
    ⟨runsC _ _ _ _ rfl (by decide +kernel), by decide +kernel⟩, ⟨runsC _ _ _ _ rfl (by decide +kernel), by decide +kernel⟩,
    ⟨runsC _ _ _ _ rfl (by decide +kernel), by decide +kernel⟩, ⟨runsC _ _ _ _ rfl (by decide +kernel), by decide +kernel⟩,
    runsC _ _ _ _ rfl (by decide +kernel), by decide +kernel, by decide +kernel, fun k => by simp [fullTable, State.holding]⟩

/-- PublishShares, and the last clause of PublishRefuses: no SHARED cell of map 0 has cell 4's value. -/
theorem witness_PublishShares :
    (Runs0 .publish 4 0 0 busy ∧ (busy.map 0).frozen = false ∧ (busy.cell (cellOf 0 4)).state = .owned 0 ∧
      busy.cellInOpenBatch (cellOf 0 4) = false ∧ busy.emptySlot = some 1 ∧ 1 ≤ (busy.session 0).owned) ∧
    ∀ j : Index, (busy.cell (cellOf 0 j)).isShared → (busy.cell (cellOf 0 j)).working ≠ (busy.cell (cellOf 0 4)).working := by
  refine ⟨⟨runsC _ _ _ _ rfl (by decide +kernel), by decide +kernel⟩, fun j h => ?_⟩
  have h1 := all_cells (s := busy) (fun _ x => !x.isShared || x.working == green) (by decide +kernel) (cellOf 0 j)
  have h4 : (busy.cell (cellOf 0 4)).working = .black := by decide +kernel
  rw [h, Bool.not_true, Bool.false_or, beq_iff_eq] at h1
  rw [h1, h4]
  decide

/-! ### Witnesses: private cells -/

theorem no_run {s : State} {ok : Cell → Bool} (h : ∀ i, ok (s.cell (cellOf 0 i)) = false) (i : Nat) :
    ¬ s.RunFits 0 1 1 ok i := fun ⟨_, hi, hr⟩ => by
  have := hr ⟨i, by omega⟩ (Nat.le_refl i) (Nat.lt_succ_self i)
  rw [h] at this
  exact Bool.noConfusion this

/-- AllocPrivateRefuses: counts 0 and 65 and alignment 3; a frozen map, with count and alignment 64; a charge of 3 with a count of
6 over a quota of 8; a map with COOLING cells and none FREE; and a map of FIXED cells. -/
theorem witness_AllocPrivateRefuses :
    (Runs0 .allocPrivate 0 1 0 busy ∧ Runs0 .allocPrivate 65 1 0 busy ∧ 64 < (65 : Word).toNat ∧
      Runs0 .allocPrivate 1 3 0 busy ∧ (3 : Word).toNat ∉ [1, 2, 4, 8, 16, 32, 64]) ∧
    (Runs0 .allocPrivate 64 64 0 frozen ∧ (frozen.map 0).frozen = true ∧ (64 : Word).toNat ∈ [1, 2, 4, 8, 16, 32, 64]) ∧
    (Runs0 .allocPrivate 6 1 0 busy ∧ (busy.map 0).frozen = false ∧ (busy.session 0).quota < (busy.session 0).charge + 6) ∧
    (Runs0 .allocPrivate 1 1 0 (allCells (.cooling 1)) ∧ (∀ i, ¬ (allCells (.cooling 1)).RunFits 0 1 1 Cell.isFree i) ∧
      (allCells (.cooling 1)).RunFits 0 1 1 (fun x => x.isFree || x.isCooling) 0) ∧
    (Runs0 .allocPrivate 1 1 0 (allCells .fixed) ∧ (∀ i, ¬ (allCells .fixed).RunFits 0 1 1 Cell.isFree i) ∧
      ∀ i, ¬ (allCells .fixed).RunFits 0 1 1 (fun x => x.isFree || x.isCooling) i) := by
  refine ⟨⟨runsC _ _ _ _ rfl (by decide +kernel), runsC _ _ _ _ rfl (by decide +kernel), by decide,
      runsC _ _ _ _ rfl (by decide +kernel), by decide⟩,
    ⟨runsC _ _ _ _ rfl (by decide +kernel), by decide +kernel⟩, ⟨runsC _ _ _ _ rfl (by decide +kernel), by decide +kernel⟩,
    ⟨runsC _ _ _ _ rfl (by decide +kernel), no_run fun i => by simp [allCells, State.cell, Cell.isFree],
      by decide, by decide, fun j _ _ => by simp [allCells, State.cell, Cell.isFree, Cell.isCooling]⟩,
    runsC _ _ _ _ rfl (by decide +kernel), no_run fun i => by simp [allCells, State.cell, Cell.isFree],
    no_run fun i => by simp [allCells, State.cell, Cell.isFree, Cell.isCooling]⟩

/-- AllocPrivateTakes: a run of 5 on an even index, up to the quota; the lowest is at 6. -/
theorem witness_AllocPrivateTakes :
    Runs0 .allocPrivate 5 2 0 busy ∧ (busy.map 0).frozen = false ∧ (busy.session 0).charge + 5 = (busy.session 0).quota ∧
      busy.RunFits 0 5 2 Cell.isFree 6 ∧ ∀ i < 6, ¬ busy.RunFits 0 5 2 Cell.isFree i := by
  refine ⟨runsC _ _ _ _ rfl (by decide +kernel), ?_⟩
  unfold State.RunFits
  decide +kernel

/-- StoreRefuses: a frozen map, index 256, a FREE cell at index 255, another client's cell, bit 30 of the value, a 33rd member of
the open batch, and a 129th entry. -/
theorem witness_StoreRefuses :
    (Runs0 .store 256 0 0 frozen ∧ (frozen.map 0).frozen = true) ∧
    (Runs0 .store 256 0 0 busy ∧ (busy.map 0).frozen = false) ∧
    (Runs0 .store 255 0 0 busy ∧ (busy.cell (cellOf 0 255)).state = .free) ∧
    (Runs0 .store 5 0 0 busy ∧ (busy.cell (cellOf 0 5)).state = .owned 1) ∧
    (Runs0 .store 4 0x40000000 0 busy ∧ (busy.cell (cellOf 0 4)).state = .owned 0 ∧ bits 31 30 0x40000000 ≠ 0) ∧
    (Runs0 .store 4 0x3FFFFFFF 0 (queueOf ⟨0, some ⟨0, 1⟩⟩ 32) ∧ bits 31 30 0x3FFFFFFF = 0 ∧ (busy.map 0).mode = .deferred ∧
      (busy.session 0).openBatch = some 1 ∧ (⟨4, some ⟨0, 1⟩⟩ : Entry) ∉ (queueOf ⟨0, some ⟨0, 1⟩⟩ 32).queue ∧
      (queueOf ⟨0, some ⟨0, 1⟩⟩ 32).batchCount ⟨0, 1⟩ = 32) ∧
    (Runs0 .store 4 0x3FFFFFFF 0 (queueOf ⟨2, none⟩ 128) ∧ (queueOf ⟨2, none⟩ 128).batchCount ⟨0, 1⟩ < 32 ∧
      (queueOf ⟨2, none⟩ 128).queued 4 = false ∧ (queueOf ⟨2, none⟩ 128).queue.length = 128) := by
  refine ⟨⟨runsC _ _ _ _ rfl (by decide +kernel), by decide +kernel⟩, ⟨runsC _ _ _ _ rfl (by decide +kernel), by decide +kernel⟩,
    ⟨runsC _ _ _ _ rfl (by decide +kernel), by decide +kernel⟩, ⟨runsC _ _ _ _ rfl (by decide +kernel), by decide +kernel⟩,
    ⟨runsC _ _ _ _ rfl (by decide +kernel), by decide +kernel⟩, ⟨runsC _ _ _ _ rfl (by decide +kernel), by decide +kernel⟩,
    runsC _ _ _ _ rfl (by decide +kernel), by decide +kernel⟩

/-- StoreSets: a new entry in the open batch, a queued cell of the batch, and a DIRECT map. -/
theorem witness_StoreSets :
    (Runs0 .store 4 0x3FFFFFFF 0 (queueOf ⟨2, none⟩ 127) ∧ (busy.map 0).frozen = false ∧
      (busy.cell (cellOf 0 4)).state = .owned 0 ∧ colourArg 0x3FFFFFFF = some ⟨1023, 1023, 1023⟩ ∧
      (busy.map 0).mode = .deferred ∧ (queueOf ⟨2, none⟩ 127).batchCount ⟨0, 1⟩ < 32 ∧
      (queueOf ⟨2, none⟩ 127).queue.length < 128) ∧
    (Runs0 .store 0 0x3FFFFFFF 0 busy ∧ (busy.cell (cellOf 0 0)).state = .owned 0 ∧
      (⟨0, some ⟨0, 1⟩⟩ : Entry) ∈ busy.queue ∧ busy.queued 0 = true) ∧
    (RunsClient (run 2 .store 0 0x3FFFFFFF 0 busy) 2 1 ⟨.store, 0, 0x3FFFFFFF, 0⟩ ∧ (busy.map 1).mode = .direct ∧
      (busy.map 1).frozen = false ∧ (busy.cell (cellOf 1 0)).state = .owned 2) := by
  refine ⟨⟨runsC _ _ _ _ rfl (by decide +kernel), by decide +kernel⟩, ⟨runsC _ _ _ _ rfl (by decide +kernel), by decide +kernel⟩,
    runsC _ _ _ _ rfl (by decide +kernel), by decide +kernel⟩

/-- FreeRunGivesBack: a frozen map; counts 0 and 65, first index 256, and a range that ends past 256; a range that ends at 256, of
64 cells the client does not own; cells 4 and 5, of which 5 is another client's; and cell 4 alone. -/
theorem witness_FreeRunGivesBack :
    (Runs0 .freeRun 4 1 0 frozen ∧ (frozen.map 0).frozen = true) ∧
    (Runs0 .freeRun 4 0 0 busy ∧ Runs0 .freeRun 4 65 0 busy ∧ Runs0 .freeRun 256 1 0 busy ∧ Runs0 .freeRun 255 2 0 busy ∧
      (busy.map 0).frozen = false ∧ 256 < (255 : Word).toNat + (2 : Word).toNat) ∧
    (Runs0 .freeRun 192 64 0 busy ∧ (192 : Word).toNat + (64 : Word).toNat ≤ 256 ∧
      (busy.cell (cellOf 0 192)).state ≠ .owned 0 ∧
      ∀ j < (192 : Index), 192 ≤ j.val → (busy.cell (cellOf 0 j)).state = .owned 0) ∧
    (Runs0 .freeRun 4 2 0 busy ∧ (busy.cell (cellOf 0 5)).state ≠ .owned 0 ∧
      ∀ j < (5 : Index), 4 ≤ j.val → (busy.cell (cellOf 0 j)).state = .owned 0) ∧
    (Runs0 .freeRun 4 1 0 busy ∧ ∀ i : Index, 4 ≤ i.val → i.val < 4 + 1 → (busy.cell (cellOf 0 i)).state = .owned 0) := by
  refine ⟨⟨runsC _ _ _ _ rfl (by decide +kernel), by decide +kernel⟩,
    ⟨runsC _ _ _ _ rfl (by decide +kernel), runsC _ _ _ _ rfl (by decide +kernel), runsC _ _ _ _ rfl (by decide +kernel),
      runsC _ _ _ _ rfl (by decide +kernel), by decide +kernel⟩,
    ⟨runsC _ _ _ _ rfl (by decide +kernel), by decide +kernel⟩, ⟨runsC _ _ _ _ rfl (by decide +kernel), by decide +kernel⟩,
    runsC _ _ _ _ rfl (by decide +kernel), by decide +kernel⟩

/-- ReadReports: index 256, source 2, and index 255 with source 1, in a frozen map. -/
theorem witness_ReadReports :
    Runs0 .read 256 0 0 busy ∧ Runs0 .read 0 2 0 busy ∧ Runs0 .read 255 1 0 frozen ∧
      (255 : Word).toNat = (255 : Index).val ∧ (1 : Word).toNat ≤ 1 :=
  ⟨runsC _ _ _ _ rfl (by decide +kernel), runsC _ _ _ _ rfl (by decide +kernel), runsC _ _ _ _ rfl (by decide +kernel),
    by decide⟩

/-! ### Witnesses: accounts and batches -/

/-- QueryReports. -/
theorem witness_QueryReports : Runs0 .query 0 0 0 busy := runsC _ _ _ _ rfl (by decide +kernel)

/-- `busy` with client 1's next serial 255, which a closed batch of its own still carries. -/
def lastSerial : State :=
  { busy.setSession 1 { busy.session 1 with nextSerial := 255 } with queue := [⟨5, some ⟨1, 255⟩⟩] }

/-- BatchOpensSerial: an open batch; a DIRECT map; and none open in a DEFERRED map, with next serial 1 and 255. -/
theorem witness_BatchOpensSerial :
    (Runs0 .batchOpen 0 0 0 busy ∧ (busy.session 0).openBatch ≠ none) ∧
    (RunsClient (run 2 .batchOpen 0 0 0 busy) 2 1 ⟨.batchOpen, 0, 0, 0⟩ ∧ (busy.map 1).mode = .direct) ∧
    (RunsClient (run 1 .batchOpen 0 0 0 busy) 1 0 ⟨.batchOpen, 0, 0, 0⟩ ∧ (busy.session 1).openBatch = none ∧
      (busy.map 0).mode = .deferred ∧ busy.queue.length ≤ 128 ∧ (busy.session 1).nextSerial = 1) ∧
    (RunsClient (run 1 .batchOpen 0 0 0 lastSerial) 1 0 ⟨.batchOpen, 0, 0, 0⟩ ∧ (lastSerial.session 1).openBatch = none ∧
      lastSerial.queue.length ≤ 128 ∧ (lastSerial.session 1).nextSerial = 255) := by
  refine ⟨⟨runsC _ _ _ _ rfl (by decide +kernel), by decide +kernel⟩, ⟨runsC _ _ _ _ rfl (by decide +kernel), by decide +kernel⟩,
    ⟨runsC _ _ _ _ rfl (by decide +kernel), by decide +kernel⟩, runsC _ _ _ _ rfl (by decide +kernel), by decide +kernel⟩

/-- BatchCloses: none open, and one open. -/
theorem witness_BatchCloses :
    (RunsClient (run 1 .batchClose 0 0 0 busy) 1 0 ⟨.batchClose, 0, 0, 0⟩ ∧ (busy.session 1).openBatch = none) ∧
    (Runs0 .batchClose 0 0 0 busy ∧ (busy.session 0).openBatch = some 1) :=
  ⟨⟨runsC _ _ _ _ rfl (by decide +kernel), by decide +kernel⟩, runsC _ _ _ _ rfl (by decide +kernel), by decide +kernel⟩

/-! ### Witnesses: sessions -/

/-- ClientOpens: client 8; a session that is not CLOSED; for client 7, map 4, master 8, quota 257 and warning level 257; and
map 3, master 7, quota 256 and warning level 256. -/
theorem witness_ClientOpens :
    (RunsW .clientOpen 8 0 0 busy ∧ 7 < (8 : Word).toNat) ∧
    (RunsW .clientOpen 0 0 0 busy ∧ (busy.session 0).state ≠ .closed) ∧
    (RunsW .clientOpen 7 0x004 0 busy ∧ 3 < bits 7 0 0x004 ∧ RunsW .clientOpen 7 0x800 0 busy ∧ 7 < bits 15 8 0x800 ∧
      RunsW .clientOpen 7 0 0x101 busy ∧ 256 < bits 15 0 0x101 ∧ RunsW .clientOpen 7 0 0x1010000 busy ∧
      256 < bits 31 16 0x1010000 ∧ (busy.session 7).state = .closed) ∧
    (RunsW .clientOpen 7 0x703 0x1000100 busy ∧ (7 : Word).toNat = (7 : ClientNo).val ∧ bits 7 0 0x703 = (3 : MapNo).val ∧
      bits 15 8 0x703 = (7 : MasterNo).val ∧ bits 15 0 0x1000100 = 256 ∧ bits 31 16 0x1000100 = 256) :=
  ⟨⟨runsS _ _ _ _ rfl, by decide⟩, ⟨runsS _ _ _ _ rfl, by decide +kernel⟩,
    ⟨runsS _ _ _ _ rfl, by decide, runsS _ _ _ _ rfl, by decide, runsS _ _ _ _ rfl, by decide, runsS _ _ _ _ rfl,
      by decide, by decide +kernel⟩, runsS _ _ _ _ rfl, by decide⟩

/-- ClientQuotaSets: client 8; a CLOSED session; quota 257, warning level 257 and a quota below the charge of 3; and a quota equal
to it with warning level 256. -/
theorem witness_ClientQuotaSets :
    (RunsW .clientQuota 8 0 0 busy ∧ 7 < (8 : Word).toNat) ∧
    (RunsW .clientQuota 7 0 0 busy ∧ (busy.session 7).state.isOpen = false) ∧
    (RunsW .clientQuota 0 257 0 busy ∧ RunsW .clientQuota 0 3 257 busy ∧ RunsW .clientQuota 0 2 0 busy ∧
      (busy.session 0).charge = 3) ∧
    (RunsW .clientQuota 0 3 256 busy ∧ (busy.session 0).state.isOpen = true ∧ (256 : Word).toNat ≤ 256) :=
  ⟨⟨runsS _ _ _ _ rfl, by decide⟩, ⟨runsS _ _ _ _ rfl, by decide +kernel⟩,
    ⟨runsS _ _ _ _ rfl, runsS _ _ _ _ rfl, runsS _ _ _ _ rfl, by decide +kernel⟩, runsS _ _ _ _ rfl, by decide +kernel⟩

/-- ClientCloses: client 8; a CLOSED session; an OPEN one while a teardown is pending, and with none pending, with a command
WAITING in its window and with none. -/
theorem witness_ClientCloses :
    (RunsW .clientClose 8 0 0 busy ∧ 7 < (8 : Word).toNat) ∧
    (RunsW .clientClose 7 0 0 busy ∧ (busy.session 7).state.isOpen = false) ∧
    (RunsW .clientClose 1 0 0 closing ∧ (closing.session 1).state = .opened 0 2 ∧ closing.teardownBusy = true) ∧
    (RunsW .clientClose 1 0 0 (waiting 1 busy) ∧ (busy.session 1).state = .opened 0 2 ∧ busy.teardownBusy = false ∧
      ((waiting 1 busy).window (ClientNo.window 1)).slot = .waiting ⟨.query, 0, 0, 0⟩) ∧
    (RunsW .clientClose 1 0 0 busy ∧ (busy.window (ClientNo.window 1)).slot.isWaiting = false) :=
  ⟨⟨runsS _ _ _ _ rfl, by decide⟩, ⟨runsS _ _ _ _ rfl, by decide +kernel⟩, ⟨runsS _ _ _ _ rfl, by decide +kernel⟩,
    ⟨runsS _ _ _ _ rfl, by decide +kernel⟩, runsS _ _ _ _ rfl, by decide +kernel⟩

/-- `closing` with a slice in progress. -/
def slicing : State := { closing with work := some .slice }

theorem slicing_runs : RunsSlice slicing 0 := ⟨rfl, rfl, rfl, rfl⟩

/-- SliceTakesItems: a record and two cells to take. -/
theorem witness_SliceTakesItems :
    RunsSlice slicing 0 ∧ slicing.sliceRecords 0 = [0] ∧ slicing.sliceCells 0 = [0, 4] :=
  ⟨slicing_runs, by decide +kernel⟩

/-- SliceEndsTeardown: client 3 has neither record nor cell. -/
theorem witness_SliceEndsTeardown : RunsSlice { slicing with teardownClient := 3 } 3 ∧
    (∀ k r, slicing.holding k = some r → r.client ≠ 3) ∧ ∀ n, (slicing.cell n).state ≠ .owned 3 := by
  refine ⟨⟨rfl, rfl, rfl, rfl⟩, fun k r h => ?_, fun n h => ?_⟩
  · have := all_slots (s := slicing) (fun _ x => !names 3 x) (by decide +kernel) k
    simpa [names, h] using this
  · have := all_cells (s := slicing) (fun _ x => !x.ownedBy 3) (by decide +kernel) n
    simp [Cell.ownedBy, h] at this

/-! ### Witnesses: the supervisor's commands -/

/-- FixPlaces: cell 1024 and bit 31 of the value; a PRIVATE cell; a FREE cell with 128 entries and with 127; a FIXED cell that is
queued; and a FREE cell of a DIRECT map. -/
theorem witness_FixPlaces :
    (RunsW .fix 1024 0 0 busy ∧ 1023 < (1024 : Word).toNat ∧ RunsW .fix 0 0x80000000 0 busy ∧ bits 31 30 0x80000000 ≠ 0) ∧
    (RunsW .fix 0 0x400 0 busy ∧ colourArg 0x400 = some green ∧ (busy.cell 0).state ≠ .free ∧ (busy.cell 0).state ≠ .fixed) ∧
    (RunsW .fix 1023 0x400 0 (queueOf ⟨2, none⟩ 128) ∧ (1023 : Word).toNat = (1023 : CellNo).val ∧
      (busy.cell 1023).state = .free ∧ (busy.map (mapOf 1023)).mode = .deferred ∧
      (queueOf ⟨2, none⟩ 128).queued 1023 = false ∧ (queueOf ⟨2, none⟩ 128).queue.length = 128) ∧
    (RunsW .fix 1023 0x400 0 (queueOf ⟨2, none⟩ 127) ∧ (queueOf ⟨2, none⟩ 127).queue.length < 128) ∧
    (RunsW .fix 2 0x400 0 busy ∧ (busy.cell 2).state = .fixed ∧ busy.queued 2 = true) ∧
    (RunsW .fix 257 0x400 0 busy ∧ (busy.cell 257).state = .free ∧ (busy.map (mapOf 257)).mode = .direct) :=
  ⟨⟨runsS _ _ _ _ rfl, by decide, runsS _ _ _ _ rfl, by decide⟩, ⟨runsS _ _ _ _ rfl, by decide +kernel⟩,
    ⟨runsS _ _ _ _ rfl, by decide +kernel⟩, ⟨runsS _ _ _ _ rfl, by decide +kernel⟩, ⟨runsS _ _ _ _ rfl, by decide +kernel⟩,
    runsS _ _ _ _ rfl, by decide +kernel⟩

/-- UnfixReleases: cell 1024; cell 1023, which is FREE; and the FIXED cell 2, with cooling setting 1 and 0. -/
theorem witness_UnfixReleases :
    (RunsW .unfix 1024 0 0 busy ∧ 1023 < (1024 : Word).toNat) ∧
    (RunsW .unfix 1023 0 0 busy ∧ (1023 : Word).toNat = (1023 : CellNo).val ∧ (busy.cell 1023).state ≠ .fixed) ∧
    (RunsW .unfix 2 0 0 busy ∧ RunsW .unfix 2 0 0 { busy with cooling := 0 } ∧ (busy.cell 2).state = .fixed ∧
      busy.cooling = 1) :=
  ⟨⟨runsS _ _ _ _ rfl, by decide⟩, ⟨runsS _ _ _ _ rfl, by decide +kernel⟩, runsS _ _ _ _ rfl, runsS _ _ _ _ rfl,
    by decide +kernel⟩

/-- MapResetClears: map 4; map 3, with nothing in it; and map 0, to which client 0 is bound and client 2 is not. -/
theorem witness_MapResetClears :
    (RunsW .mapReset 4 0 0 busy ∧ 3 < (4 : Word).toNat) ∧ (RunsW .mapReset 3 0 0 busy ∧ (3 : Word).toNat = (3 : MapNo).val) ∧
    (RunsW .mapReset 0 0 0 busy ∧ (busy.session 0).state.map? = some 0 ∧ (busy.session 2).state.map? ≠ some 0 ∧
      busy.holding 0 = some ⟨0, 1, 1⟩ ∧ busy.holding 511 = none ∧ mapOf 0 = 0 ∧ mapOf 256 ≠ 0) ∧
    QueueHolds (runWs .mapReset 0 0 0 busy) :=
  ⟨⟨runsS _ _ _ _ rfl, by decide⟩, ⟨runsS _ _ _ _ rfl, by decide⟩, ⟨runsS _ _ _ _ rfl, by decide +kernel⟩,
    ⟨busy_queue.length, busy_queue.once, busy_queue.deferred, busy_queue.ahead, busy_queue.batch, busy_queue.oneMap,
      busy_queue.member, busy_queue.opener⟩⟩

/-- MapModeSets: map 4, mode 2 and frozen 2; map 0 to DIRECT, with client 0's batch open; map 3 to DIRECT and frozen; and map 1,
which is DIRECT, to DIRECT. -/
theorem witness_MapModeSets :
    (RunsW .mapMode 4 0 0 busy ∧ RunsW .mapMode 0 2 0 busy ∧ RunsW .mapMode 0 0 2 busy ∧ 3 < (4 : Word).toNat ∧
      1 < (2 : Word).toNat) ∧
    (RunsW .mapMode 0 1 0 busy ∧ (busy.map 0).mode = .deferred ∧ (1 : Word).toNat = MapMode.direct.code ∧
      (busy.session 0).state.map? = some 0 ∧ (busy.session 0).openBatch ≠ none) ∧
    (RunsW .mapMode 3 1 1 busy ∧ (busy.map 3).mode = .deferred ∧ (1 : Word).toNat = true.toNat ∧
      ∀ c, (busy.session c).state.map? = some 3 → (busy.session c).openBatch = none) ∧
    (RunsW .mapMode 1 1 0 busy ∧ (busy.map 1).mode = .direct) :=
  ⟨⟨runsS _ _ _ _ rfl, runsS _ _ _ _ rfl, runsS _ _ _ _ rfl, by decide⟩, ⟨runsS _ _ _ _ rfl, by decide +kernel⟩,
    ⟨runsS _ _ _ _ rfl, by decide +kernel⟩, runsS _ _ _ _ rfl, by decide +kernel⟩

/-- FlushDrains: map 4, and maps 3 and 0. -/
theorem witness_FlushDrains : RunsW .flush 4 0 0 busy ∧ 3 < (4 : Word).toNat ∧ RunsW .flush 3 0 0 busy ∧
    RunsW .flush 0 0 0 busy ∧ (3 : Word).toNat = (3 : MapNo).val :=
  ⟨runsS _ _ _ _ rfl, by decide, runsS _ _ _ _ rfl, runsS _ _ _ _ rfl, by decide⟩

/-- SetCommitSets: budgets 31 and 129 and setting 4; and budgets 32 and 128 with setting 3. -/
theorem witness_SetCommitSets :
    (RunsW .setCommit 31 0 0 busy ∧ RunsW .setCommit 129 0 0 busy ∧ RunsW .setCommit 32 4 0 busy) ∧
    RunsW .setCommit 32 3 0 busy ∧ RunsW .setCommit 128 3 0 busy ∧ 32 ≤ (32 : Word).toNat ∧ (128 : Word).toNat ≤ 128 :=
  ⟨⟨runsS _ _ _ _ rfl, runsS _ _ _ _ rfl, runsS _ _ _ _ rfl⟩, runsS _ _ _ _ rfl, runsS _ _ _ _ rfl, by decide⟩

/-! ### Witnesses: frame boundaries, lookups, resets -/

/-- FrameBoundary: 30 ns low so far, with 10 ns more and 40 ns high, hold an edge; with one picosecond less of either they hold
none; a rise that was watched for 10 ns becomes an edge after 30 ns more, and not before; cell 2 is taken, cell 0 is not, cell 3
is COOLING and cell 6 is not. -/
theorem witness_FrameBoundary :
    busy.resetHeld = false ∧ busy.EdgeIn 10000 40000 ∧ ¬ busy.EdgeIn 9999 40000 ∧ ¬ busy.EdgeIn 10000 39999 ∧
    ¬ busy.EdgeIn 0 0 ∧ ¬ busy.EdgeIn 10000 0 ∧ { busy with blank := .rising 10000 }.EdgeIn 0 30000 ∧
    ¬ { busy with blank := .rising 10000 }.EdgeIn 0 29999 ∧ ¬ { busy with blank := .settled }.EdgeIn 0 40000 ∧
    (∃ e ∈ busy.queue, e.cell = 2 ∧ busy.committed.has e) ∧ (∀ e ∈ busy.queue, e.cell = 0 → ¬ busy.committed.has e) ∧
    (busy.cell 3).state = .cooling 1 ∧ (busy.cell 6).isCooling = false := by
  refine ⟨rfl, .inl (by decide), ?_, ?_, ?_, ?_, .inr ⟨rfl, 10000, rfl, by decide⟩, ?_, ?_, by decide +kernel⟩ <;>
    simp [State.EdgeIn, State.lowTime, busy]

/-- CountdownLowers and LookupReturns: RESET is released, with each limit of a lookup and the value just under it. -/
theorem witness_LookupReturns :
    busy.resetHeld = false ∧ 2500 ≤ 2500 ∧ 2499 < 2500 ∧ 8000 ≤ 8000 ∧ 7999 < 8000 := by
  refine ⟨rfl, ?_⟩
  decide

/-- The part after power-on reset with 33 singles queued and the smallest budget. -/
def longQueue : State := { State.powerOn 0 with queue := (List.finRange 33).map fun i => ⟨i.castLE (by omega), none⟩, budget := 32 }

theorem longQueue_queue : QueueHolds longQueue where
  length := by decide
  once := by decide
  deferred e _ := by
    have : ∀ m, (longQueue.map m).mode = .deferred := by decide +kernel
    exact this _
  ahead n h := by
    have := all_cells (s := longQueue) (fun _ x => x.working == x.visible) (by decide +kernel) n
    exact absurd (beq_iff_eq.mp this) h
  batch t := by
    have : ∀ e ∈ longQueue.queue, ¬ e.carries t = true := by
      intro e he
      obtain ⟨i, -, rfl⟩ := List.mem_map.mp he
      simp [Entry.carries]
    rw [State.batchCount, List.countP_eq_zero.mpr this]
    exact Nat.zero_le _
  oneMap e he _ _ _ h := by
    obtain ⟨i, -, rfl⟩ := List.mem_map.mp he
    exact absurd rfl h
  member e he t ht _ := by
    obtain ⟨i, -, rfl⟩ := List.mem_map.mp he
    cases ht
  opener c k h := by
    have : ∀ c, (longQueue.session c).openBatch = none := by decide +kernel
    rw [this] at h
    cases h

/-- WalkTakes: an entry of an open batch and one that the walk takes, which is the first outside open batches; and, with a budget
of 32, the 32nd single, which fits, and the 33rd, which does not. -/
theorem witness_WalkTakes : (QueueHolds busy ∧ RangesHold busy ∧ (⟨0, some ⟨0, 1⟩⟩ : Entry) ∈ busy.queue ∧
      busy.queue.find? (fun e => !busy.inOpenBatch e) = some ⟨2, none⟩) ∧
    QueueHolds longQueue ∧ (⟨31, none⟩ : Entry) ∈ longQueue.queue ∧ longQueue.costThrough ⟨31, none⟩ = 32 ∧
    (⟨32, none⟩ : Entry) ∈ longQueue.queue ∧ longQueue.costThrough ⟨32, none⟩ = 33 ∧ longQueue.budget = 32 :=
  ⟨⟨busy_queue, busy_ranges, by decide +kernel⟩, longQueue_queue, by decide +kernel⟩

/-- BatchesMoveWhole: an edge that leaves an open batch in the queue. -/
theorem witness_BatchesMoveWhole : QueueHolds busy ∧ ∃ t, exec (.blankStartEdge 40000 40000) busy = .next t ∧
    t.queue = [⟨0, some ⟨0, 1⟩⟩] := ⟨busy_queue, _, rfl, by decide +kernel⟩

/-- ResetHeldAndReleased. -/
theorem witness_ResetHeldAndReleased : inReset.resetHeld = true ∧ Instr.engineTake ≠ .powerOnReset := ⟨rfl, by decide⟩

/-! ### Witnesses: the host port -/

theorem permitted_0 : ¬ busy.IsStranger 0 1 := not_stranger (by decide) (by decide +kernel)
theorem permitted_ws : ¬ busy.IsStranger .ws 0 := not_stranger (by decide) (by decide +kernel)
theorem stranger_0 : busy.IsStranger 0 6 := .inr ⟨0, 1, rfl, by decide +kernel, by decide⟩
theorem stranger_ws : busy.IsStranger .ws 6 := .inl ⟨rfl, by decide⟩

/-- EventWrites and WordsRead: a client window, an unbound one and WS. -/
theorem witness_EventWrites : busy.resetHeld = false ∧ ¬ busy.IsStranger 0 1 ∧ ¬ busy.IsStranger 7 5 ∧
    ¬ busy.IsStranger .ws 0 := ⟨rfl, permitted_0, not_stranger (by decide) (by decide +kernel), permitted_ws⟩

/-- WordsRead: the last word of a client window and its first offset with none; the words of WS, INSP_DATA apart, and its first
offset with none; and the first and last value of HA[7:4] that name no window. -/
theorem witness_WordsRead :
    ((0 : WindowField).val = (0 : WindowNo).val ∧ (0x8 : Offset).val = 0x8) ∧
    (0x9 ≤ (0x9 : Offset).val ∧ (0 : WindowNo) ≠ .ws) ∧
    ((8 : WindowField).val = WindowNo.ws.val ∧ ∀ k ∈ [(0x9 : Offset), 0xA, 0xC, 0xD], ¬ (WindowNo.ws = .ws ∧ k.val = 0xB)) ∧
    0xE ≤ (0xE : Offset).val ∧ 9 ≤ (9 : WindowField).val ∧ 9 ≤ (15 : WindowField).val := by decide

/-- FaultWriteEmpties: the master of WS, and another; an empty record, and a full one; and a denied access to W0. -/
theorem witness_FaultWriteEmpties : busy.resetHeld = false ∧ (0 : MasterNo) = busy.supMaster ∧ (6 : MasterNo) ≠ busy.supMaster ∧
    busy.fault = none ∧ { busy with fault := some ⟨0, 6, 0, true⟩ }.fault ≠ none ∧ (0 : WindowField).val = (0 : WindowNo).val ∧
    busy.IsStranger 0 6 :=
  ⟨rfl, rfl, by decide, rfl, by simp, rfl, stranger_0⟩

/-- InspSelSelects: each table at its last position and past it, and the number that names none. -/
theorem witness_InspSelSelects : busy.resetHeld = false ∧ (0 : MasterNo) = busy.supMaster ∧
    (bits 1 0 0x03FF0000 = InspTable.cells.number ∧ bits 25 16 0x03FF0000 < InspTable.cells.size) ∧
    (bits 1 0 0x01FF0001 = InspTable.holdings.number ∧ bits 25 16 0x01FF0001 < InspTable.holdings.size) ∧
    (bits 1 0 0x02000001 = InspTable.holdings.number ∧ ¬ bits 25 16 0x02000001 < InspTable.holdings.size) ∧
    (bits 1 0 0x007F0002 = InspTable.queue.number ∧ bits 25 16 0x007F0002 < InspTable.queue.size) ∧
    (bits 1 0 0x00800002 = InspTable.queue.number ∧ ¬ bits 25 16 0x00800002 < InspTable.queue.size) ∧
    bits 1 0 0x00000003 = 3 := by
  refine ⟨rfl, rfl, ?_⟩
  decide

/-- InspDataReads: the cursor at each word of the last cell, at the last slot and at the last position of the queue. -/
theorem witness_InspDataReads (k : Capture) : busy.resetHeld = false ∧ (0 : MasterNo) = busy.supMaster ∧
    ({ busy with cursor := ⟨.cells, 1023, .first⟩ }.cursor.word = .first) ∧
    ({ busy with cursor := ⟨.cells, 1023, .second k⟩ }.cursor.word = .second k) ∧
    ({ busy with cursor := ⟨.cells, 1023, .third k⟩ }.cursor.word = .third k) ∧
    ({ busy with cursor := ⟨.holdings, 511, .first⟩ }.cursor.position.val = (511 : SlotNo).val) ∧
    { busy with cursor := ⟨.queue, 127, .first⟩ }.cursor.position.val < 128 :=
  ⟨rfl, rfl, rfl, rfl, rfl, rfl, by simp⟩

/-- DenialIsReported: every row that accesses a window, by a stranger to it; an empty record, and a full one; a read, and a
write. -/
theorem witness_DenialIsReported : busy.resetHeld = false ∧ busy.IsStranger 0 6 ∧ busy.IsStranger .ws 6 ∧
    accessOf (.deniedAccess 0 6 0x6 .read) = some (0, 6, 0x6, .read) ∧
    accessOf (.commandWrite 0 6 1) = some (0, 6, 0x0, .write 1) ∧
    accessOf (.partReset 6) = some (.ws, 6, 0x0, .write 0x1F) ∧
    accessOf (.evPendWrite 0 6 1) = some (0, 6, 0x7, .write 1) ∧ accessOf (.evEnWrite 0 6 1) = some (0, 6, 0x8, .write 1) ∧
    accessOf (.faultWrite 6 0) = some (.ws, 6, 0x9, .write 0) ∧ accessOf (.inspSelWrite 6 0) = some (.ws, 6, 0xA, .write 0) ∧
    accessOf (.inspDataRead 6) = some (.ws, 6, 0xB, .read) ∧
    accessOf (.registerWrite 0x01 6 0) = some (0, 6, 0x1, .write 0) ∧
    busy.fault = none ∧ { busy with fault := some ⟨0, 6, 0, true⟩ }.fault ≠ none :=
  ⟨rfl, stranger_0, stranger_ws, rfl, rfl, rfl, rfl, rfl, rfl, rfl, rfl, rfl, rfl, by simp⟩

/-- RegisterWriteTakes: each argument word, the first and last words that take no write, and the first address of no window. -/
theorem witness_RegisterWriteTakes : busy.resetHeld = false ∧ ¬ busy.IsStranger 0 1 ∧ ¬ busy.IsStranger .ws 0 ∧
    ((Instr.registerWrite 0x01 1 0).wellFormed ∧ (0x01 : HostAddr).toNat / 16 = 0 ∧ (0x01 : HostAddr).toNat % 16 = 1) ∧
    ((Instr.registerWrite 0x02 1 0).wellFormed ∧ (0x02 : HostAddr).toNat % 16 = 2) ∧
    ((Instr.registerWrite 0x83 0 0).wellFormed ∧ (0x83 : HostAddr).toNat / 16 = 8 ∧ (0x83 : HostAddr).toNat % 16 = 3) ∧
    ((Instr.registerWrite 0x04 1 0).wellFormed ∧ 4 ≤ (0x04 : HostAddr).toNat % 16) ∧
    ((Instr.registerWrite 0x8F 0 0).wellFormed ∧ 4 ≤ (0x8F : HostAddr).toNat % 16) ∧
    ((Instr.registerWrite 0x90 5 0).wellFormed ∧ 9 ≤ (0x90 : HostAddr).toNat / 16) :=
  ⟨rfl, permitted_0, permitted_ws, by decide⟩

/-! ### Well-formed commands -/

theorem test_ill_formed_part_reset_in_command_write : (Instr.commandWrite .ws 0 0x1F).wellFormed = false := by decide
theorem test_ill_formed_part_reset_with_ignored_bits : (Instr.commandWrite .ws 0 0x11F).wellFormed = false := by decide
theorem test_well_formed_code_1F_in_client_window : (Instr.commandWrite 7 0 0x1F).wellFormed = true := by decide
theorem test_ill_formed_register_write_cmd : (Instr.registerWrite 0x70 0 0).wellFormed = false := by decide
theorem test_ill_formed_register_write_ev_pend : (Instr.registerWrite 0x17 0 0).wellFormed = false := by decide
theorem test_ill_formed_register_write_ev_en : (Instr.registerWrite 0x88 0 0).wellFormed = false := by decide
theorem test_ill_formed_register_write_fault : (Instr.registerWrite 0x89 0 0).wellFormed = false := by decide
theorem test_ill_formed_register_write_insp_sel : (Instr.registerWrite 0x8A 0 0).wellFormed = false := by decide
theorem test_well_formed_client_offset_9 : (Instr.registerWrite 0x79 0 0).wellFormed = true := by decide

/-! ### Addresses, codes and words that the spec works out -/

/-- R154: client 5's STATUS is at 0x56, and INSP_DATA at 0x8B. -/
theorem test_addresses : (addrWindow 0x56, regAt 5 (addrOffset 0x56)) = (some 5, some .status) ∧
    (addrWindow 0x8B, regAt .ws (addrOffset 0x8B)) = (some .ws, some .inspData) ∧ addrWindow 0x90 = none := by decide

/-- R97, R157, R158: the first and last codes of each window, and their neighbours. -/
theorem test_codes : commandAt 0 0x01 = some .allocShared ∧ commandAt 0 0x0B = some .batchClose ∧ commandAt 0 0x00 = none ∧
    commandAt 0 0x0C = none ∧ commandAt 0 0x10 = none ∧ commandAt .ws 0x10 = some .clientOpen ∧
    commandAt .ws 0x18 = some .setCommit ∧ commandAt .ws 0x0F = none ∧ commandAt .ws 0x19 = none := by decide

/-- R155: (800, 40, 40) is 0x3200A028. -/
theorem test_colour_word : colourWord ⟨800, 40, 40⟩ = 0x3200A028 ∧ colourArg 0x3200A028 = some ⟨800, 40, 40⟩ := by decide

/-- R155: cell 700 is map 2, index 188. -/
theorem test_cell_number : cellOf 2 188 = 700 ∧ mapOf 700 = 2 ∧ indexOf 700 = 188 := by decide

/-- R160: HOLDINGS slot 510 of section 4.5, and CELLS word 0 of cell 301. -/
theorem test_inspection_words : holdingWord (some ⟨0, 301, 2⟩) = 0x80212D00 ∧
    (busy.setCell 301 ⟨.shared 5, green, green⟩).cellWord0 301 = 0x4B400502 := by decide +kernel

/-- R159: 0x01C80001 selects HOLDINGS at position 456, and a QUEUE position above 127 is taken as 0. -/
theorem test_cursor : Cursor.reset.select 0x01C80001 = ⟨.holdings, 456, .first⟩ ∧
    Cursor.reset.select 0x00800002 = ⟨.queue, 0, .first⟩ ∧ Cursor.reset.select 3 = Cursor.reset := by decide

/-- No word of the opcode table spells a command: its rows give no bits. -/
theorem test_no_table_word : decodeTableWord 8 0x1F = none := rfl

/-! ### One step of each command on `busy` -/

/-- The posted words of a window. -/
def posted (w : WindowNo) (s : State) : Nat × Word × Word :=
  ((s.window w).posted.result.number, (s.window w).posted.res0, (s.window w).posted.res1)

/-- R95: an accepted write holds the code and a copy of the argument words. -/
theorem test_command_write_accepted :
    ((after (.commandWrite 0 1 0xFF09) (busy.setWindow 0 { busy.window 0 with arg1 := 7 })).window 0).slot =
      .waiting ⟨.query, 0, 7, 0⟩ := by decide +kernel

/-- R96: a write while the slot is WAITING sets OVERRUN and keeps the held command. -/
theorem test_command_write_overrun : (fun x : Window => (x.slot, x.overrun))
    ((after (.commandWrite 0 1 0x01) (waiting 0 busy)).window 0) = (.waiting ⟨.query, 0, 0, 0⟩, true) := by decide +kernel

/-- R104: the search starts after the last client served, which is 7, and passes client 7 last. -/
theorem test_engine_take_round_robin :
    (fun s : State => (s.work, s.lastServed, s.sliceTurn)) (after .engineTake (waiting 7 (waiting 3 busy))) =
      (some (.command 3), 3, true) := by decide +kernel

/-- R104: a slice on its turn is taken before a client's command, and gives the turn up. -/
theorem test_engine_take_slice : (fun s : State => (s.work, s.sliceTurn)) (after .engineTake (waiting 3 closing)) =
    (some .slice, false) := by decide +kernel

/-- R25, R157: a match posts the index with REUSED and the working value. -/
theorem test_alloc_shared_reuse : posted 0 (after .allocShared (run 0 .allocShared 0x401 1 0 busy)) = (0, 0x101, 0x400) := by
  decide +kernel

/-- R27, R157: a miss posts the lowest FREE index with NEW, and its fourth unit of charge raises QUOTA_WARN (R67). -/
theorem test_alloc_shared_new : (fun s : State => (posted 0 s, (s.window 0).pending))
    (after .allocShared (run 0 .allocShared 0x3FFFFFFF 0 0 busy)) = ((0, 0x206, 0x3FFFFFFF), 0b0011) := by decide +kernel

/-- R31, R23: HOLD by a client with a record raises the record and the cell's reference count. -/
theorem test_hold_again : (fun s : State => (s.holding 0, (s.cell 1).state)) (after .hold (run 0 .hold 1 0 0 busy)) =
    (some ⟨0, 1, 2⟩, .shared 2) := by decide +kernel

/-- R34, R61: the last reference dropped removes the record and releases the cell. -/
theorem test_free_last_reference : (fun s : State => (s.holding 0, (s.cell 1).state, (s.session 0).charge))
    (after .free (run 0 .free 1 0 0 busy)) = (none, .cooling 1, 2) := by decide +kernel

/-- R51, R11: a cell given back from the open batch leaves its entry as a single in place. -/
theorem test_free_batched_cell : (fun s : State => ((s.cell 0).state, s.queue)) (after .free (run 0 .free 0 0 0 busy)) =
    (.cooling 1, [⟨0, none⟩, ⟨2, none⟩]) := by decide +kernel

/-- R37: PUBLISH moves a unit from the owned to the held count. -/
theorem test_publish : (fun s : State => ((s.cell 4).state, s.holding 1, (s.session 0).owned, (s.session 0).held))
    (after .publish (run 0 .publish 4 0 0 busy)) = (.shared 1, some ⟨0, 4, 1⟩, 1, 2) := by decide +kernel

/-- R36: PUBLISH of a SHARED cell's value posts that cell's index. -/
theorem test_publish_duplicate : posted 0 (after .publish (run 0 .publish 4 0 0 twoGreens)) = (16, 1, 0) := by decide +kernel

/-- R41, R43: the lowest aligned run, with the charge and its warning. -/
theorem test_alloc_private : (fun s : State => (posted 0 s, (s.window 0).pending, (s.session 0).charge, (s.session 0).armed))
    (after .allocPrivate (run 0 .allocPrivate 5 2 0 busy)) = ((0, 6, 0), 0b0011, 8, false) := by decide +kernel

/-- R156: STATUS reads 0x00060003 after a STORE that completes with OK, and RES1 the queued field. -/
theorem test_store_status : (fun s : State => ((s.window 0).status, posted 0 s))
    (after .store (run 0 .store 4 0x3200A028 0 busy)) = (0x00060003, 0, 4, 1) := by decide +kernel

/-- R50: a rewrite moves the cell's entry to the tail. -/
theorem test_store_moves_entry : (after .store (run 0 .store 0 0x3200A028 0 busy)).queue = [⟨2, none⟩, ⟨0, some ⟨0, 1⟩⟩] := by
  decide +kernel

/-- R52: the lowest index that failed is posted beside NOT_OWNER. -/
theorem test_free_run_not_owner : posted 0 (after .freeRun (run 0 .freeRun 4 2 0 busy)) = (6, 5, 0) := by decide +kernel

/-- R53: a run of one. -/
theorem test_free_run : (fun s : State => (posted 0 s, (s.cell 4).state, (s.session 0).charge))
    (after .freeRun (run 0 .freeRun 4 1 0 busy)) = ((0, 1, 0), .cooling 1, 2) := by decide +kernel

/-- R54, R157: the visible value of cell 5, PRIVATE to client 1, and the working value of the queued cell 0. -/
theorem test_read : posted 0 (after .read (run 0 .read 5 1 0 busy)) = (0, 0, 0x11) ∧
    posted 0 (after .read (run 0 .read 0 0 0 busy)) = (0, 0x00100000, 0x9) := by decide +kernel

/-- R70, R157: charge 3, quota 8, warning level 4; held 1, owned 2, open batch 1, map 0. -/
theorem test_query : posted 0 (after .query (run 0 .query 0 0 0 busy)) =
    (0, 3 + 8 * 2 ^ 9 + 4 * 2 ^ 18, 1 + 2 * 2 ^ 10 + 1 * 2 ^ 19) := by decide +kernel

/-- R78: next serial 255, still carried, gives serial 1 and next serial 2. -/
theorem test_batch_open_wraps : (fun s : State => ((s.session 1).openBatch, (s.session 1).nextSerial))
    (after .batchOpen (run 1 .batchOpen 0 0 0 lastSerial)) = (some 1, 2) := by decide +kernel

/-- R79: the serial and the entry count. -/
theorem test_batch_close : posted 0 (after .batchClose (run 0 .batchClose 0 0 0 busy)) = (0, 1, 1) := by decide +kernel

/-- Section 11.1: client 1 opened on map 0 for master 2 with quota 64 and warning level 48, on the part after reset. -/
theorem test_client_open : (fun s : State => (posted .ws s, s.session 1))
    (after .clientOpen (runWs .clientOpen 1 0x200 0x00300040 (.powerOn 0))) =
      ((0, 1, 0), ⟨.opened 0 2, 64, 48, true, 0, 0, none, 1⟩) := by decide +kernel

/-- R117: the charge is posted and the flag set. -/
theorem test_client_quota : (fun s : State => (posted .ws s, (s.session 0).quota, (s.session 0).armed))
    (after .clientQuota (runWs .clientQuota 0 3 3 busy)) = ((0, 0, 3), 3, false) := by decide +kernel

/-- R119: a waiting command is answered CLOSED, with DONE and REVOKED pending. -/
theorem test_client_close : (fun s : State => (posted 0 s, (s.window 0).pending, (s.session 0).openBatch, s.teardownWord))
    (after .clientClose (runWs .clientClose 0 0 0 (waiting 0 busy))) = ((3, 0, 0), 0b1001, none, 0x80000000) := by
  decide +kernel

/-- R132: a FIXED cell is rewritten as a single at the tail. -/
theorem test_fix : (fun s : State => (posted .ws s, s.queue)) (after .fix (runWs .fix 2 0x400 0 busy)) =
    ((0, 2, 1), [⟨0, some ⟨0, 1⟩⟩, ⟨2, none⟩]) := by decide +kernel

/-- R133: the state after the command, COOLING. -/
theorem test_unfix : posted .ws (after .unfix (runWs .unfix 2 0 0 busy)) = (0, 2, 4) := by decide +kernel

/-- R134: the entries of the map go, with the values not yet shown, and the records; the FIXED cell stays. -/
theorem test_map_reset : (fun s : State => (posted .ws s, s.cell 0, (s.cell 2).state, s.holding 0))
    (after .mapReset (runWs .mapReset 0 0 0 busy)) = ((0, 0, 2), ⟨.free, .black, .black⟩, .fixed, none) := by decide +kernel

/-- R135: the clients bound to the map hear of it, and no other. -/
theorem test_map_reset_clients : (fun s : State => ((s.session 0).charge, (s.window 0).pending, (s.window 2).pending))
    (after .mapReset (runWs .mapReset 0 0 0 busy)) = (0, 0b0100, 0) := by decide +kernel

/-- R137: no change to DIRECT while a client of the map has an open batch. -/
theorem test_map_mode_refused : posted .ws (after .mapMode (runWs .mapMode 0 1 0 busy)) = (5, 0, 0) := by decide +kernel

/-- R137, R158: map 1 frozen, in DIRECT mode as before. -/
theorem test_map_mode : (fun s : State => (posted .ws s, s.map 1)) (after .mapMode (runWs .mapMode 1 1 1 busy)) =
    ((0, 0x301, 0), ⟨.direct, true⟩) := by decide +kernel

/-- Section 11.5: RES1 reads 0x00010001 for 1 entry moved and 1 cell made FREE; the open batch's member stays. -/
theorem test_flush : (fun s : State => (posted .ws s, (s.cell 2).visible, s.queue)) (after .flush (runWs .flush 0 0 0 busy)) =
    ((0, 0, 0x00010001), blue, [⟨0, some ⟨0, 1⟩⟩]) := by decide +kernel

/-- R140: both settings at their largest. -/
theorem test_set_commit : (fun s : State => (posted .ws s, s.budget, s.cooling))
    (after .setCommit (runWs .setCommit 128 3 0 busy)) = ((0, 128, 3), 128, 3) := by decide +kernel

/-- R145: the working value falls back to the visible value, which is kept, as the low time of BLANK is. -/
theorem test_part_reset : (fun s : State => (s.cell 2, s.queue, (s.session 0).state, s.blank)) (after (.partReset 0) busy) =
    (⟨.free, .black, .black⟩, [], .closed, .low 30000) := by decide +kernel

/-- R122, R123: a slice takes the record and both cells; the second finds nothing and ends the teardown. -/
theorem test_teardown_slice : (fun s : State => ((s.cell 0).state, (s.cell 1).state, (s.session 0).charge, s.teardownBusy))
    (after .teardownSlice slicing) = (.cooling 1, .cooling 1, 0, true) := by decide +kernel

theorem test_teardown_ends : (fun s : State => ((s.session 3).state, s.teardownBusy, (s.window .ws).pending))
    (after .teardownSlice { slicing with teardownClient := 3 }) = (.closed, false, 0b0010) := by decide +kernel

/-- R84, R85, R13: the single is taken, the open batch is passed over, and cell 3's countdown ends. -/
theorem test_blank_start_edge : (fun s : State => ((s.cell 2).visible, (s.cell 0).visible, s.queue, (s.cell 3).state))
    (after (.blankStartEdge 40000 40000) busy) = (blue, .black, [⟨0, some ⟨0, 1⟩⟩], .free) := by decide +kernel

/-- R151: 30 ns low so far and 9 ns more are too short, and the high level that follows gives no edge. -/
theorem test_blank_low_too_short : (fun s : State => (s.queue.length, s.blank)) (after (.blankStartEdge 9000 90000) busy) =
    (2, .settled) := by decide +kernel

/-- R151: an ignored high pulse ends the low interval before it, so that the low time counts from the pulse's fall; an interval
that another event divides is timed on; and a high level gives one edge. -/
theorem test_blank_watch :
    (BlankWatch.low 90000).watch 0 39999 = .rising 39999 ∧ (BlankWatch.rising 39999).watch 10000 0 = .low 10000 ∧
    (BlankWatch.low 10000).watch 29999 0 = .low 39999 ∧ (BlankWatch.low 39999).takesEdge 0 90000 = false ∧
    (BlankWatch.low 39999).takesEdge 1 40000 = true ∧ (BlankWatch.rising 39999).takesEdge 0 1 = true ∧
    BlankWatch.settled.takesEdge 0 90000 = false := by decide

/-- R13: the countdown alone moves no entry. -/
theorem test_cooling_expiry : (fun s : State => ((s.cell 3).state, s.queue.length)) (after .coolingExpiry busy) = (.free, 2) := by
  decide +kernel

/-- R147: SCOL carries the visible value's colour word, which for the queued cell 2 is still black. -/
theorem test_lookup : (after (.lookup 0 1 2500 8000) busy).scol = 0x400 ∧ (after (.lookup 0 2 2500 8000) busy).scol = 0 := by
  decide +kernel

/-- R146: the notification lines fall and the part is not ready while RESET is held. -/
theorem test_power_on_reset : (fun s : State => (s.hostReady, s.notify 0, s.scol, s.queue)) (after .powerOnReset busy) =
    (false, false, 0, []) := by decide +kernel

/-- R128, R146: WS is bound to the master on SUPM, and the watch on BLANK starts afresh. -/
theorem test_reset_release : (fun s : State => (s.permitted .ws 3, s.permitted .ws 0, s.blank))
    (after (.resetRelease 3) inReset) = (true, false, .low 0) := by decide +kernel

/-- R109, R156: the events written as 1 are cleared, and 0xFFFFFFFF clears every one. -/
theorem test_ev_pend_write : ((after (.evPendWrite 0 1 0x5) (busy.setWindow 0 { busy.window 0 with pending := 0b0111 })).window
    0).pending = 0b0010 := by decide +kernel

/-- Section 11.1: 0x0000000F enables the four events; and the line follows (R110). -/
theorem test_ev_en_write : (fun s : State => ((s.window 0).enabled, s.notify 0))
    (after (.evEnWrite 0 1 0xF) (busy.setWindow 0 { busy.window 0 with pending := 0b1000 })) = (0b1111, true) := by
  decide +kernel

/-- R130: any value empties the record. -/
theorem test_fault_write : (after (.faultWrite 0 0) { busy with fault := some ⟨3, 6, 8, false⟩, more := true }).faultWord = 0 := by
  decide +kernel

/-- R159: a write of 0x01C80001 by the master of WS. -/
theorem test_insp_sel_write : (after (.inspSelWrite 0 0x01C80001) busy).cursor.selWord = 0x01C80001 := by decide +kernel

/-- R142: a read captures cell 0: PRIVATE to client 0 and queued. -/
theorem test_insp_data_read : (fun s : State => (s.readData, s.cursor.word.index)) (after (.inspDataRead 0) busy) =
    (some 0x9, 1) := by decide +kernel

/-- R159: a stranger's read of W3's EV_EN (address 0x38) by master 6 makes FAULT read 0x80000638, and returns 0 (R101). -/
theorem test_denied_access : (fun s : State => (s.faultWord, (s.window .ws).pending, s.readData))
    (after (.deniedAccess 3 6 8 .read) (busy.setSession 3 { Session.reset with state := .opened 2 1 })) =
      (0x80000638, 0b1000, some 0) := by decide +kernel

/-- R154: a read of an address that names no window returns 0, and no denial is reported. -/
theorem test_read_of_no_window : (fun s : State => (s.readData, s.fault, (s.window .ws).pending))
    (after (.deniedAccess 9 6 0 .read) busy) = (some 0, none, 0) := by decide +kernel

/-- R99: a write to ARG0 leaves the held command as it was. -/
theorem test_register_write : (fun x : Window => (x.arg0, x.slot)) ((after (.registerWrite 0x01 1 9) (waiting 0 busy)).window 0) =
    (9, .waiting ⟨.query, 0, 0, 0⟩) := by decide +kernel

end Sys2Proof.Tests
end

section
/-! Proofs on the shared cells that are found (R23 to R25, R31): what posting a result over a changed state comes to, what a
reference taken by `takeReference` does, and the two commands that take one. -/

namespace Sys2Proof.Machine

variable {s t : State}

/-! ### Posting over a changed state -/

/-- Events set pending before a result is posted are set pending beside DONE (R106, R108). -/
theorem Window.completed_signalled (x : Window) (e : BitVec 4) (cmd : Command) (r : Reply) :
    (x.signalled e).completed cmd r 0 = x.completed cmd r e := by
  simp [Window.signalled, Window.completed, BitVec.or_assoc, BitVec.or_comm e]

/-- A post over a state whose windows differ from those of `s` in the events `e` of the posted window alone. -/
theorem State.posts_post {w : WindowNo} {e : BitVec 4} (hw : t.window w = (s.window w).signalled e)
    (ho : ∀ w', w' ≠ w → t.window w' = s.window w') (cmd : Command) (r : Reply) : Posts s (t.post w cmd r) w cmd r e where
  window := by rw [State.window_post, if_pos rfl, hw, Window.completed_signalled]
  others w' h := by rw [State.window_post, if_neg h, ho w' h]
  free := t.post_work w cmd r

/-- A post touches the windows and the engine alone. -/
theorem KeepsRest.post (h : KeepsRest s t) (w : WindowNo) (cmd : Command) (r : Reply) : KeepsRest s (t.post w cmd r) :=
  ⟨h.maps, h.budget, h.cooling, h.lastServed, h.sliceTurn, h.teardownBusy, h.teardownClient, h.supMaster, h.fault, h.more,
    h.cursor, h.scanResult, h.blank, h.resetHeld, h.readData, h.pending⟩

/-- The post of a refusal alone refuses. -/
theorem State.refuses_post (s : State) (w : WindowNo) (cmd : Command) (r : ResultCode) :
    Refuses s (s.post w cmd (.refusal r)) w cmd r :=
  s.onlyPosts_post w cmd (.refusal r)

/-- The row of the command in progress completes it: its body in the bound map, and its result posted (R105, R106). -/
theorem State.completeClient_of_command {c : ClientNo} {m : MapNo} {h : Held} {cmd : Command} (hr : RunsClient s c m h)
    (hcmd : h.command = cmd) (body : ClientNo → MapNo → Held → State → State × Reply) :
    s.completeClient cmd body = (body c m h s).1.post c.window cmd (body c m h s).2 := by
  subst hcmd
  exact State.completeClient_of_runs hr body

/-! ### Taking a reference (R23, R24, R25) -/

/-- The client's record with one more, and one more reference on the cell (R23). -/
theorem addsReference_post (s : State) (c : ClientNo) (n : CellNo) (k : SlotNo) (cmd : Command) :
    AddsReference s
      (((s.setHolding k (some ⟨c, n, s.recordCount k + 1⟩)).addReference n).post c.window cmd
        (.reference (indexOf n) false (s.cell n).working)) c n k cmd where
  posts := State.posts_post (by simp) (by simp) cmd _
  record := by simp
  slots k' hk := by simp [hk]
  cell := by rw [State.cell_post, State.cell_addReference, if_pos rfl]; rfl
  cells n' hn := by rw [State.cell_post, State.cell_addReference, if_neg hn]; rfl
  queue := rfl
  sessions := rfl
  rest := KeepsRest.post (by constructor <;> rfl) _ _ _

/-- A new record of count 1 with its unit of charge, and one more reference on the cell (R24). -/
theorem makesRecord_post (s : State) (c : ClientNo) (n : CellNo) (k : SlotNo) (cmd : Command) :
    MakesRecord s
      (((s.addReference n).placeRecord c n k).post c.window cmd (.reference (indexOf n) false (s.cell n).working))
      c n k cmd where
  posts := State.posts_post (by simp [State.window_placeRecord, Window.signalled])
    (fun w' h => by simp [State.window_placeRecord, h]) cmd _
  record := by simp [State.holding_placeRecord]
  slots k' hk := by simp [State.holding_placeRecord, hk]
  cell := by simp [State.cell_addReference]
  cells n' hn := by simp [State.cell_addReference, hn]
  queue := by simp
  session := by simp [State.session_placeRecord]
  sessions c' hc := by simp [State.session_placeRecord, hc]
  rest := KeepsRest.post (by constructor <;> simp) _ _ _

/-- `takeReference`, with its result posted, takes a reference in the check order of R24: by the client's record where it has
one, and else by a new record under the quota and full-table checks. -/
theorem takesReference_post (s : State) (c : ClientNo) (n : CellNo) (cmd : Command) :
    TakesReference s ((takeReference c n s).1.post c.window cmd (takeReference c n s).2) c n cmd := by
  unfold TakesReference takeReference Session.exceedsQuota Config.holdLimit
  cases s.findHolding c n with
  | some k =>
    by_cases hk : 255 ≤ s.recordCount k
    · simpa only [hk, if_true] using s.refuses_post c.window cmd .holdLimit
    · simpa only [hk, if_false] using addsReference_post s c n k cmd
  | none =>
    by_cases hq : (s.session c).quota < (s.session c).charge + 1
    · simpa only [hq, decide_true, if_true] using s.refuses_post c.window cmd .quota
    · simp only [hq, decide_false, if_false, Bool.false_eq_true]
      cases s.emptySlot with
      | none => exact s.refuses_post c.window cmd .holdingsFull
      | some k => exact makesRecord_post s c n k cmd

/-! ### ALLOC_SHARED on a found cell -/

/-- ALLOC_SHARED that passes its argument checks and finds a cell takes a reference to it (R21, R22). -/
theorem allocShared_of_match {c : ClientNo} {m : MapNo} {h : Held} {v : Colour} {n : CellNo}
    (hf : (s.map m).frozen = false) (hc : h.arg1.toNat ≤ 6) (hv : colourArg h.arg0 = some v)
    (hm : s.findMatch m h.arg1.toNat v = some n) : allocShared c m h s = takeReference c n s := by
  have hlim : ¬ Config.coarsenessLimit < h.arg1.toNat := Nat.not_lt.mpr hc
  simp [allocShared, hf, hlim, hv, hm]

/-- The completion of an ALLOC_SHARED in progress (R105, R106). -/
theorem exec_allocShared_of_runs {c : ClientNo} {m : MapNo} {h : Held} (hr : RunsClient s c m h)
    (hcmd : h.command = .allocShared) :
    exec .allocShared s =
      .next ((allocShared c m h s).1.post c.window .allocShared (allocShared c m h s).2) :=
  congrArg Host.Outcome.next (State.completeClient_of_command hr hcmd allocShared)

/-- Settles O19: the found branch of ALLOC_SHARED is `takeReference`. -/
theorem allocSharedReuses : Obligations.AllocSharedReuses := by
  intro s c m h v n hr hcmd hf hc hv hm
  refine ⟨_, exec_allocShared_of_runs hr hcmd, ?_⟩
  rw [allocShared_of_match hf hc hv hm]
  exact takesReference_post s c n .allocShared

/-! ### HOLD (R31) -/

section Hold

variable {c : ClientNo} {m : MapNo} {h : Held}

/-- The completion of a HOLD in progress (R105, R106). -/
theorem exec_hold_of_runs (hr : RunsClient s c m h) (hcmd : h.command = .hold) :
    exec .hold s = .next ((hold c m h s).1.post c.window .hold (hold c m h s).2) :=
  congrArg Host.Outcome.next (State.completeClient_of_command hr hcmd hold)

theorem hold_of_frozen (hf : (s.map m).frozen = true) : hold c m h s = (s, .refusal .mapFrozen) := by
  simp [hold, hf]

theorem hold_of_index_above (hf : (s.map m).frozen = false) (hi : 255 < h.arg0.toNat) :
    hold c m h s = (s, .refusal .badArgument) := by
  simp [hold, hf, indexArg_eq_none.mpr hi]

/-- HOLD of an index in range is decided by whether the cell is SHARED. -/
theorem hold_of_index {i : Index} (hf : (s.map m).frozen = false) (hi : h.arg0.toNat = i.val) :
    hold c m h s =
      if (s.cell (cellOf m i)).isShared then takeReference c (cellOf m i) s else (s, .refusal .wrongState) := by
  simp [hold, hf, indexArg_eq_some.mpr hi]

end Hold

/-- Settles O21: the refusals in the check order of R31, and for a SHARED cell the same `takeReference` as in O19. -/
theorem holdTakesReference : Obligations.HoldTakesReference := by
  intro s c m h hr hcmd
  refine ⟨_, exec_hold_of_runs hr hcmd, fun hf => ?_, fun hf => ⟨fun hi => ?_, fun i hi => ⟨fun hs => ?_, fun hs => ?_⟩⟩⟩
  · rw [hold_of_frozen hf]
    exact s.refuses_post c.window .hold .mapFrozen
  · rw [hold_of_index_above hf hi]
    exact s.refuses_post c.window .hold .badArgument
  · rw [hold_of_index hf hi, if_neg (by simp [hs])]
    exact s.refuses_post c.window .hold .wrongState
  · rw [hold_of_index hf hi, if_pos hs]
    exact takesReference_post s c (cellOf m i) .hold

end Sys2Proof.Machine
end

section
/-! Proofs on the cells that clients own and their runs (R11, R41, R43, R46 to R54): the searches over a run, what giving cells back and
taking a run come to once their result is posted, and the completions of FREE, ALLOC_PRIVATE, STORE, FREE_RUN and READ. -/

namespace Sys2Proof.Machine

variable {s t : State} {c : ClientNo} {m : MapNo} {h : Held}

/-! ### Runs -/

/-- A cell of a run is one of the map with an index in the range (R41, R52). -/
theorem inRun_eq_true {first count : Nat} {n : CellNo} :
    inRun m first count n = true ↔ mapOf n = m ∧ first ≤ (indexOf n).val ∧ (indexOf n).val < first + count := by
  simp [inRun, and_assoc]

/-- The search of a run finds nothing exactly where no cell of the run meets the condition. -/
theorem State.lowest_inRun_eq_none {first count : Nat} {q : Cell → Bool} :
    lowest (fun n x => inRun m first count n && q x) s.cells = none ↔
      ∀ j : Index, first ≤ j.val → j.val < first + count → q (s.cell (cellOf m j)) = false := by
  rw [lowest_eq_none]
  constructor
  · intro hnone j hlo hhi
    have hj : inRun m first count (cellOf m j) = true := inRun_eq_true.mpr (by simp [hlo, hhi])
    have hq : (inRun m first count (cellOf m j) && q (s.cell (cellOf m j))) = false := hnone (cellOf m j)
    rwa [hj, Bool.true_and] at hq
  · intro hq n
    cases hn : inRun m first count n with
    | false => rfl
    | true =>
      obtain ⟨rfl, hlo, hhi⟩ := inRun_eq_true.mp hn
      have hcell := hq (indexOf n) hlo hhi
      rwa [cellOf_mapOf_indexOf] at hcell

/-- The search of a run finds the cell of the lowest index that meets the condition. -/
theorem State.lowest_inRun_eq_some {first count : Nat} {q : Cell → Bool} {i : Index} (hlo : first ≤ i.val)
    (hhi : i.val < first + count) (hi : q (s.cell (cellOf m i)) = true)
    (hlow : ∀ j < i, first ≤ j.val → q (s.cell (cellOf m j)) = false) :
    lowest (fun n x => inRun m first count n && q x) s.cells = some (cellOf m i) := by
  refine lowest_eq_some.mpr ⟨?_, fun n hn => ?_⟩
  · have hrun : inRun m first count (cellOf m i) = true := inRun_eq_true.mpr (by simp [hlo, hhi])
    exact Bool.and_eq_true_iff.mpr ⟨hrun, hi⟩
  · cases hrun : inRun m first count n with
    | false => rfl
    | true =>
      obtain ⟨rfl, hlo', -⟩ := inRun_eq_true.mp hrun
      have hbelow : indexOf n < i := cellOf_lt_cellOf (m := mapOf n) |>.mp (by simpa using hn)
      have hcell := hlow (indexOf n) hbelow hlo'
      rwa [cellOf_mapOf_indexOf] at hcell

/-- The run search tests every cell of the run (R41). -/
theorem State.runMeets_eq_true {first count : Nat} {ok : Cell → Bool} :
    s.runMeets m first count ok = true ↔
      ∀ j : Index, first ≤ j.val → j.val < first + count → ok (s.cell (cellOf m j)) = true := by
  rw [State.runMeets, Option.isNone_iff_eq_none, State.lowest_inRun_eq_none]
  simp only [Bool.not_eq_false']

/-- The run search tries a first index by `RunFits` (R41). -/
theorem State.runFits_iff {count align i : Nat} {ok : Cell → Bool} :
    (i % align == 0 && decide (i + count ≤ 256) && s.runMeets m i count ok) = true ↔ s.RunFits m count align ok i := by
  rw [Bool.and_eq_true_iff, Bool.and_eq_true_iff, State.runMeets_eq_true, beq_iff_eq, decide_eq_true_iff, and_assoc]
  rfl

/-- The run search finds the lowest first index at which a run of at least one cell fits (R41). -/
theorem State.findRun_eq_some {count align first : Nat} {ok : Cell → Bool} (hc : 1 ≤ count) :
    s.findRun m count align ok = some first ↔
      s.RunFits m count align ok first ∧ ∀ i < first, ¬ s.RunFits m count align ok i := by
  simp only [State.findRun, List.find?_range_eq_some, Bool.not_eq_true', ← Bool.not_eq_true, State.runFits_iff,
    List.mem_range]
  constructor
  · rintro ⟨hfit, -, hlow⟩
    exact ⟨hfit, hlow⟩
  · rintro ⟨hfit, hlow⟩
    have hinside : first + count ≤ 256 := hfit.2.1
    exact ⟨hfit, by omega, hlow⟩

/-! ### Posting over new counts -/

/-- A completion that sets the client's counts, over a state with the windows and the client's session of `s`, posts its result
with the warning that the counts call for (R67, R106). -/
theorem State.posts_setCounts_post (hw : t.windows = s.windows) (hs : t.session c = s.session c) (owned held : Nat)
    (cmd : Command) (r : Reply) :
    Posts s ((t.setCounts c owned held).post c.window cmd r) c.window cmd r ((s.session c).warnEvent owned held) := by
  have hwin (w : WindowNo) : t.window w = s.window w := by rw [State.window, hw]; rfl
  refine State.posts_post ?_ (fun w hne => ?_) cmd r
  · rw [State.window_setCounts, if_pos rfl, hwin, hs]
    rfl
  · rw [State.window_setCounts, if_neg hne, hwin]

/-- A post over a state whose windows differ from those of `s` in the events of the posted window and of WS alone. -/
theorem State.postsAndSignals_post {e high : BitVec 4} (hc : t.window c.window = (s.window c.window).signalled e)
    (hws : t.window .ws = (s.window .ws).signalled high)
    (ho : ∀ w, w ≠ c.window → w ≠ .ws → t.window w = s.window w) (cmd : Command) (r : Reply) :
    PostsAndSignals s (t.post c.window cmd r) c cmd r e high where
  window := by rw [State.window_post, if_pos rfl, hc, Window.completed_signalled]
  ws := by rw [State.window_post, if_neg (ws_ne_client_window c), hws]
  others w hne hws' := by rw [State.window_post, if_neg hne, ho w hne hws']
  free := t.post_work c.window cmd r

/-! ### Giving cells back (R11, R51, R53) -/

/-- `k` of a client's cells, those that meet `p`, given back in one completion: the common form of `giveBackCell` and
`giveBackRun`. -/
def State.giveBack (c : ClientNo) (p : CellNo → Bool) (k : Nat) (s : State) : State :=
  (s.release p).setCounts c ((s.session c).owned - k) (s.session c).held

theorem State.giveBackCell_eq_giveBack (n : CellNo) : s.giveBackCell c n = s.giveBack c (· == n) 1 := rfl

theorem giveBackRun_eq_giveBack (first count : Nat) :
    giveBackRun c m first count s = s.giveBack c (inRun m first count) count := rfl

/-- A completion that gives back the cells that meet `p`, `k` of them, and posts a result: the cells are released with their
entries out of open batches, and the client's owned count falls by `k` with no warning (R11, R51, R53, R68). -/
structure GivesBack (s t : State) (c : ClientNo) (p : CellNo → Bool) (k : Nat) (cmd : Command) (r : Reply) : Prop where
  posts : Posts s t c.window cmd r 0
  cells : ∀ n, t.cell n = if p n then (s.cell n).become (releasedState s.cooling) else s.cell n
  queue : t.queue = s.detached p
  session : t.session c = (s.session c).recount ((s.session c).owned - k) (s.session c).held
  sessions : KeepsOtherSessions s t c
  holdings : t.holdings = s.holdings
  rest : KeepsRest s t

theorem givesBack_post (s : State) (c : ClientNo) (p : CellNo → Bool) (k : Nat) (cmd : Command) (r : Reply) :
    GivesBack s ((s.giveBack c p k).post c.window cmd r) c p k cmd r where
  posts := by
    have hnone : (s.session c).warnEvent ((s.session c).owned - k) (s.session c).held = 0 :=
      Session.warnEvent_of_le (by omega)
    exact hnone ▸ State.posts_setCounts_post (s.release_windows p) (s.session_release p c) _ _ cmd r
  cells n := by rw [State.cell_post, State.giveBack, State.cell_setCounts, State.cell_release]
  queue := by rw [State.post_queue, State.giveBack, State.setCounts_queue, State.release_queue]
  session := by rw [State.session_post, State.giveBack, State.session_setCounts, if_pos rfl, State.session_release]
  sessions c' hne := by
    rw [State.session_post, State.giveBack, State.session_setCounts, if_neg hne, State.session_release]
  holdings := by rw [State.post_holdings, State.giveBack, State.setCounts_holdings, State.release_holdings]
  rest := KeepsRest.post (by constructor <;> simp [State.giveBack]) _ _ _

/-! ### FREE on an owned cell (R51) -/

/-- The completion of a FREE in progress (R105, R106). -/
theorem exec_free_of_runs (hr : RunsClient s c m h) (hcmd : h.command = .free) :
    exec .free s = .next ((free c m h s).1.post c.window .free (free c m h s).2) :=
  congrArg Host.Outcome.next (State.completeClient_of_command hr hcmd free)

/-- FREE of a cell that the client owns, in a map that is not frozen, gives that cell back (R51). -/
theorem free_of_owned {i : Index} (hf : (s.map m).frozen = false) (hi : h.arg0.toNat = i.val)
    (ho : (s.cell (cellOf m i)).state = .owned c) :
    free c m h s = (s.giveBack c (· == cellOf m i) 1, .freed i 0) := by
  simp [free, hf, indexArg_eq_some.mpr hi, ho, State.giveBackCell_eq_giveBack]

/-- Settles O24: FREE gives back the one cell. -/
theorem freePrivate : Obligations.FreePrivate := by
  intro s c m h i hr hcmd hf hi ho
  have hback := givesBack_post s c (· == cellOf m i) 1 .free (.freed i 0)
  refine ⟨_, exec_free_of_runs hr hcmd, ?_⟩
  rw [free_of_owned hf hi ho]
  refine ⟨hback.posts, ?_, fun n hne => ?_, hback.queue, hback.session, hback.sessions, hback.holdings, hback.rest⟩
  · rw [hback.cells, if_pos (beq_self_eq_true _)]
  · rw [hback.cells, if_neg (by simpa using hne)]

/-! ### FREE_RUN (R52, R53) -/

/-- The completion of a FREE_RUN in progress (R105, R106). -/
theorem exec_freeRun_of_runs (hr : RunsClient s c m h) (hcmd : h.command = .freeRun) :
    exec .freeRun s = .next ((freeRun c m h s).1.post c.window .freeRun (freeRun c m h s).2) :=
  congrArg Host.Outcome.next (State.completeClient_of_command hr hcmd freeRun)

theorem freeRun_of_frozen (hf : (s.map m).frozen = true) : freeRun c m h s = (s, .refusal .mapFrozen) := by
  simp [freeRun, hf]

theorem freeRun_of_bad_range (hf : (s.map m).frozen = false)
    (hbad : h.arg1.toNat = 0 ∨ Config.runLimit < h.arg1.toNat ∨ 255 < h.arg0.toNat ∨ 256 < h.arg0.toNat + h.arg1.toNat) :
    freeRun c m h s = (s, .refusal .badArgument) := by
  simp only [freeRun, hf, Bool.false_eq_true, if_false, if_pos hbad]

/-- A range of 1 to 64 cells inside the map passes the argument check (R52). -/
theorem range_passes {first count : Nat} (hlo : 1 ≤ count) (hhi : count ≤ 64) (hin : first + count ≤ 256) :
    ¬ (count = 0 ∨ Config.runLimit < count ∨ 255 < first ∨ 256 < first + count) := by
  simp only [Config.runLimit]
  omega

/-- FREE_RUN of a range that holds a cell which the client does not own posts the lowest such index (R52). -/
theorem freeRun_of_other {i : Index} (hf : (s.map m).frozen = false) (hlo : 1 ≤ h.arg1.toNat) (hhi : h.arg1.toNat ≤ 64)
    (hin : h.arg0.toNat + h.arg1.toNat ≤ 256) (hfirst : h.arg0.toNat ≤ i.val)
    (hlast : i.val < h.arg0.toNat + h.arg1.toNat) (hother : (s.cell (cellOf m i)).state ≠ .owned c)
    (hlow : ∀ j < i, h.arg0.toNat ≤ j.val → (s.cell (cellOf m j)).state = .owned c) :
    freeRun c m h s = (s, ⟨.notOwner, field 7 0 i.val, 0⟩) := by
  have hfound := State.lowest_inRun_eq_some (s := s) (m := m) (q := fun x => !x.ownedBy c) hfirst hlast
    (by simpa [Cell.ownedBy] using hother) fun j hj hj' => by simpa using hlow j hj hj'
  simp only [freeRun, hf, Bool.false_eq_true, if_false, if_neg (range_passes hlo hhi hin), hfound, indexOf_cellOf]

/-- FREE_RUN of a range whose every cell the client owns gives the range back (R53). -/
theorem freeRun_of_owned (hf : (s.map m).frozen = false) (hlo : 1 ≤ h.arg1.toNat) (hhi : h.arg1.toNat ≤ 64)
    (hin : h.arg0.toNat + h.arg1.toNat ≤ 256)
    (hown : ∀ i : Index, h.arg0.toNat ≤ i.val → i.val < h.arg0.toNat + h.arg1.toNat →
      (s.cell (cellOf m i)).state = .owned c) :
    freeRun c m h s =
      (s.giveBack c (inRun m h.arg0.toNat h.arg1.toNat) h.arg1.toNat, .ok (field 6 0 h.arg1.toNat) 0) := by
  have hnone := State.lowest_inRun_eq_none (s := s) (m := m) (q := fun x => !x.ownedBy c) |>.mpr
    fun j hj hj' => by simpa using hown j hj hj'
  simp only [freeRun, hf, Bool.false_eq_true, if_false, if_neg (range_passes hlo hhi hin), hnone,
    giveBackRun_eq_giveBack]

/-- Settles O31: the refusals in the check order of R52, and the range given back where the client owns every cell of it. -/
theorem freeRunGivesBack : Obligations.FreeRunGivesBack := by
  intro s c m h hr hcmd
  refine ⟨_, exec_freeRun_of_runs hr hcmd, fun hf => ?_,
    fun hf => ⟨fun hbad => ?_, fun hlo hhi hin => ⟨fun i hfirst hlast hother hlow => ?_, fun hown => ?_⟩⟩⟩
  · rw [freeRun_of_frozen hf]
    exact s.refuses_post c.window .freeRun .mapFrozen
  · rw [freeRun_of_bad_range hf hbad]
    exact s.refuses_post c.window .freeRun .badArgument
  · rw [freeRun_of_other hf hlo hhi hin hfirst hlast hother hlow]
    exact s.onlyPosts_post c.window .freeRun _
  · have hback := givesBack_post s c (inRun m h.arg0.toNat h.arg1.toNat) h.arg1.toNat .freeRun
      (.ok (field 6 0 h.arg1.toNat) 0)
    rw [freeRun_of_owned hf hlo hhi hin hown]
    exact ⟨hback.posts, hback.cells, hback.queue, hback.session, hback.sessions, hback.holdings, hback.rest⟩

/-! ### ALLOC_PRIVATE whose checks pass (R43) -/

/-- The completion of an ALLOC_PRIVATE in progress (R105, R106). -/
theorem exec_allocPrivate_of_runs (hr : RunsClient s c m h) (hcmd : h.command = .allocPrivate) :
    exec .allocPrivate s = .next ((allocPrivate c m h s).1.post c.window .allocPrivate (allocPrivate c m h s).2) :=
  congrArg Host.Outcome.next (State.completeClient_of_command hr hcmd allocPrivate)

/-- ALLOC_PRIVATE that passes its checks and finds a run takes it (R40, R41, R43). -/
theorem allocPrivate_of_run {first : Nat} (hlo : 1 ≤ h.arg0.toNat) (hhi : h.arg0.toNat ≤ 64)
    (halign : h.arg1.toNat ∈ Config.alignments) (hf : (s.map m).frozen = false)
    (hq : (s.session c).charge + h.arg0.toNat ≤ (s.session c).quota)
    (hrun : s.findRun m h.arg0.toNat h.arg1.toNat Cell.isFree = some first) :
    allocPrivate c m h s = (takeRun c m first h.arg0.toNat s, .ok (field 7 0 first) 0) := by
  have hargs : ¬ (h.arg0.toNat = 0 ∨ Config.runLimit < h.arg0.toNat ∨ h.arg1.toNat ∉ Config.alignments) := by
    simp only [Config.runLimit, halign, not_true_eq_false, or_false]
    omega
  have hquota : (s.session c).exceedsQuota h.arg0.toNat = false := decide_eq_false (by omega)
  simp only [allocPrivate, if_neg hargs, hf, hquota, Bool.false_eq_true, if_false, hrun]

/-- The cells after a run is taken (R43). -/
theorem cell_takeRun (first count : Nat) (n : CellNo) :
    (takeRun c m first count s).cell n = if inRun m first count n then (s.cell n).become (.owned c) else s.cell n := by
  rw [takeRun, State.cell_setCounts, State.cell_mapCells]
  rfl

/-- The session records after a run is taken (R43, R64). -/
theorem session_takeRun (first count : Nat) (j : ClientNo) :
    (takeRun c m first count s).session j =
      if j = c then (s.session c).recount ((s.session c).owned + count) (s.session c).held else s.session j := by
  rw [takeRun, State.session_setCounts, State.session_mapCells, State.session_mapCells]

/-- Taking a run leaves every field but the cells, the sessions and the windows (R43). -/
theorem keepsRest_takeRun (first count : Nat) : KeepsRest s (takeRun c m first count s) := by
  constructor <;> simp [takeRun]

/-- Settles O28: the run found is taken, with its warning judged on the whole. -/
theorem allocPrivateTakes : Obligations.AllocPrivateTakes := by
  intro s c m h first hr hcmd hlo hhi halign hf hq hfit hlow
  have hrun := (State.findRun_eq_some hlo).mpr ⟨hfit, hlow⟩
  refine ⟨_, exec_allocPrivate_of_runs hr hcmd, ?_⟩
  rw [allocPrivate_of_run hlo hhi halign hf hq hrun]
  refine ⟨State.posts_setCounts_post (by simp) (by simp) _ _ _ _, fun j hj hj' => ?_, fun n hout => ?_, ?_,
    fun c' hne => ?_, by simp [takeRun], by simp [takeRun], KeepsRest.post (keepsRest_takeRun _ _) _ _ _⟩
  · rw [State.cell_post, cell_takeRun, if_pos (inRun_eq_true.mpr (by simp [hj, hj']))]
  · rw [State.cell_post, cell_takeRun, if_neg fun hin => ?_]
    obtain ⟨hm, hj, hj'⟩ := inRun_eq_true.mp hin
    exact hout.elim (· hm) (by omega)
  · rw [State.session_post, session_takeRun, if_pos rfl]
  · rw [State.session_post, session_takeRun, if_neg hne]

/-! ### STORE whose checks pass (R47, R50) -/

/-- The completion of a STORE in progress (R105, R106). -/
theorem exec_store_of_runs (hr : RunsClient s c m h) (hcmd : h.command = .store) :
    exec .store s = .next ((store c m h s).1.post c.window .store (store c m h s).2) :=
  congrArg Host.Outcome.next (State.completeClient_of_command hr hcmd store)

/-- The queue holds an entry of a cell that carries a tag exactly where the entry itself stands in it. -/
theorem State.any_carries_eq_true {n : CellNo} {g : Tag} :
    s.queue.any (fun e => e.cell == n && e.carries g) = true ↔ (⟨n, some g⟩ : Entry) ∈ s.queue := by
  rw [List.any_eq_true]
  constructor
  · rintro ⟨⟨cell, tag⟩, he, heq⟩
    obtain ⟨rfl, rfl⟩ : cell = n ∧ tag = some g := by simpa [Entry.carries] using heq
    exact he
  · exact fun he => ⟨_, he, by simp [Entry.carries]⟩

/-- A STORE finds room in the client's open batch where the cell is a member already, or the batch holds fewer than 32 (R48). -/
theorem State.batchFull_eq_false {n : CellNo} :
    s.batchFull c n = false ↔
      ∀ k, (s.session c).openBatch = some k →
        (⟨n, some ⟨c, k⟩⟩ : Entry) ∈ s.queue ∨ s.batchCount ⟨c, k⟩ < Config.batchLimit := by
  unfold State.batchFull State.openTag
  cases (s.session c).openBatch with
  | none => simp
  | some k =>
    simp only [Option.map_some, Option.some.injEq, forall_eq', Bool.and_eq_false_iff, Bool.not_eq_false',
      State.any_carries_eq_true, decide_eq_false_iff_not, Nat.not_le]

/-- A placement finds a position where it needs none, or the queue has one left (R49). -/
theorem State.noPosition_eq_false {n : CellNo} :
    s.noPosition n = false ↔
      ((s.map (mapOf n)).mode = .deferred → s.queued n = true ∨ s.queue.length < Config.queueCapacity) := by
  simp only [State.noPosition, Bool.and_eq_false_iff, decide_eq_false_iff_not, Bool.not_eq_false', Nat.not_le, or_assoc,
    imp_iff_not_or]

/-- STORE that passes its checks sets the cell's value under the client's open batch, and posts the queued field that this
leaves (R47, R50). -/
theorem store_of_owned {i : Index} {v : Colour} (hf : (s.map m).frozen = false) (hi : h.arg0.toNat = i.val)
    (ho : (s.cell (cellOf m i)).state = .owned c) (hv : colourArg h.arg1 = some v)
    (hbatch : ¬ ((s.map m).mode = .deferred ∧ s.batchFull c (cellOf m i) = true))
    (hpos : s.noPosition (cellOf m i) = false) :
    store c m h s =
      (s.setValue (cellOf m i) v (s.openTag c),
        .ok (field 7 0 i.val) (flag 0 ((s.setValue (cellOf m i) v (s.openTag c)).queued (cellOf m i)))) := by
  simp only [store, hf, Bool.false_eq_true, if_false, indexArg_eq_some.mpr hi, ho, ne_eq, not_true_eq_false, hv,
    if_neg hbatch, hpos]

/-- A post over a value set in a cell posts its result, with QUEUE_HIGH in WS where the append calls for it (R93, R106). -/
theorem postsAndSignals_setValue (s : State) (c : ClientNo) (n : CellNo) (v : Colour) (tag : Option Tag) (cmd : Command)
    (r : Reply) : PostsAndSignals s ((s.setValue n v tag).post c.window cmd r) c cmd r 0 (s.highEvent n) :=
  State.postsAndSignals_post
    (by rw [State.setValue_window, if_neg (client_window_ne_ws c), BitVec.ofNat_eq_ofNat, Window.signalled_zero])
    (by rw [State.setValue_window, if_pos rfl])
    (fun w _ hws => by rw [State.setValue_window, if_neg hws]) cmd r

/-- Settles O30: the checks leave `setValue` under the client's open batch. -/
theorem storeSets : Obligations.StoreSets := by
  intro s c m h i v hr hcmd hf hi ho hv hroom
  have hbatch : ¬ ((s.map m).mode = .deferred ∧ s.batchFull c (cellOf m i) = true) := fun ⟨hd, hfull⟩ =>
    Bool.eq_false_iff.mp (State.batchFull_eq_false.mpr (hroom hd).1) hfull
  have hpos : s.noPosition (cellOf m i) = false :=
    State.noPosition_eq_false.mpr fun hd => (hroom (mapOf_cellOf m i ▸ hd)).2
  refine ⟨_, exec_store_of_runs hr hcmd, ?_⟩
  rw [store_of_owned hf hi ho hv hbatch hpos]
  refine ⟨postsAndSignals_setValue s c _ v _ _ _, ?_, fun n hne => ?_, ?_, ?_, ?_,
    KeepsRest.post (by constructor <;> simp) _ _ _⟩
  · rw [State.cell_post, State.cell_setValue, if_pos rfl, mapOf_cellOf]
    rfl
  · rw [State.cell_post, State.cell_setValue, if_neg hne]
  · rw [State.post_queue, State.setValue_queue]
    rfl
  · rw [State.post_holdings, State.setValue_holdings]
  · rw [State.post_sessions, State.setValue_sessions]

/-! ### READ (R54) -/

/-- The completion of a READ in progress (R105, R106). -/
theorem exec_read_of_runs (hr : RunsClient s c m h) (hcmd : h.command = .read) :
    exec .read s = .next ((read c m h s).1.post c.window .read (read c m h s).2) :=
  congrArg Host.Outcome.next (State.completeClient_of_command hr hcmd read)

theorem sourceArg_eq_none {w : Word} : sourceArg w = none ↔ 1 < w.toNat := by
  unfold sourceArg
  split <;> simp_all
  omega

/-- Source 0 is the working value and source 1 the visible value (R54, R157). -/
theorem sourceArg_of_le {w : Word} (hw : w.toNat ≤ 1) : sourceArg w = some (decide (w ≠ 0)) := by
  obtain rfl | rfl : w = 0 ∨ w = 1 := by bv_omega
  · rfl
  · rfl

theorem read_of_bad_argument (hbad : 255 < h.arg0.toNat ∨ 1 < h.arg1.toNat) :
    read c m h s = (s, .refusal .badArgument) := by
  unfold read
  obtain hi | hs := hbad
  · rw [indexArg_eq_none.mpr hi]
  · rw [sourceArg_eq_none.mpr hs]
    cases indexArg h.arg0 <;> rfl

/-- READ of an index and a source in range reports the cell, whatever its state and its map's (R54). -/
theorem read_of_arguments {i : Index} (hi : h.arg0.toNat = i.val) (hs : h.arg1.toNat ≤ 1) :
    read c m h s =
      (s, .cellRead (if h.arg1 = 0 then (s.cell (cellOf m i)).working else (s.cell (cellOf m i)).visible)
        (s.cell (cellOf m i)).state (s.queued (cellOf m i))) := by
  simp [read, indexArg_eq_some.mpr hi, sourceArg_of_le hs]

/-- Settles O32: the argument check, and the report of the cell. -/
theorem readReports : Obligations.ReadReports := by
  intro s c m h hr hcmd
  refine ⟨_, exec_read_of_runs hr hcmd, fun hbad => ?_, fun i hi hs => ?_⟩
  · rw [read_of_bad_argument hbad]
    exact s.refuses_post c.window .read .badArgument
  · rw [read_of_arguments hi hs]
    exact s.onlyPosts_post c.window .read _

end Sys2Proof.Machine
end

section
/-! Proofs on holdings and charges: the completion of QUERY (R70). -/

namespace Sys2Proof.Machine

variable {s : State} {c : ClientNo} {m : MapNo} {h : Held}

/-- The completion of a QUERY in progress posts the client's session record over the state as it stands: `query` makes no check
and changes nothing (R70, R105, R106). -/
theorem exec_query_of_runs (hr : RunsClient s c m h) (hcmd : h.command = .query) :
    exec .query s = .next (s.post c.window .query (.account (s.session c) m)) :=
  congrArg Host.Outcome.next (State.completeClient_of_command hr hcmd query)

/-- Settles O33: a post alone, of the seven fields of `Reply.account`. -/
theorem queryReports : Obligations.QueryReports := by
  intro s c m h hr hcmd
  exact ⟨_, exec_query_of_runs hr hcmd, s.onlyPosts_post c.window .query (.account (s.session c) m)⟩

end Sys2Proof.Machine
end

section
/-! Proofs on opening and closing a batch (R78, R79): the completions of BATCH_CLOSE and BATCH_OPEN, and the search for a free
serial. -/

namespace Sys2Proof.Machine

variable {s : State} {c : ClientNo} {m : MapNo} {h : Held}

/-! ### BATCH_CLOSE (R79) -/

/-- A completion that replaces the client's session record alone posts its result and changes nothing else. -/
theorem State.setSession_post (s : State) (c : ClientNo) (x : Session) (cmd : Command) (r : Reply) :
    Posts s ((s.setSession c x).post c.window cmd r) c.window cmd r 0 ∧
      ((s.setSession c x).post c.window cmd r).session c = x ∧
      KeepsOtherSessions s ((s.setSession c x).post c.window cmd r) c ∧
      ((s.setSession c x).post c.window cmd r).cells = s.cells ∧
      ((s.setSession c x).post c.window cmd r).holdings = s.holdings ∧
      ((s.setSession c x).post c.window cmd r).queue = s.queue ∧
      KeepsRest s ((s.setSession c x).post c.window cmd r) := by
  refine ⟨?_, ?_, fun c' hne => ?_, rfl, rfl, rfl, ?_⟩
  · exact State.posts_post (by simp) (fun w _ => s.window_setSession c x w) cmd r
  · rw [State.session_post, State.session_setSession_self]
  · rw [State.session_post, s.session_setSession_ne c x c' hne]
  · exact KeepsRest.post (by constructor <;> rfl) _ _ _

/-- The completion of a BATCH_CLOSE in progress (R105, R106). -/
theorem exec_batchClose_of_runs (hr : RunsClient s c m h) (hcmd : h.command = .batchClose) :
    exec .batchClose s = .next ((closeBatch c m h s).1.post c.window .batchClose (closeBatch c m h s).2) :=
  congrArg Host.Outcome.next (State.completeClient_of_command hr hcmd closeBatch)

theorem closeBatch_of_none (hb : (s.session c).openBatch = none) : closeBatch c m h s = (s, .refusal .noBatch) := by
  rw [closeBatch, hb]

theorem closeBatch_of_open {k : Nat} (hb : (s.session c).openBatch = some k) :
    closeBatch c m h s =
      (s.setSession c { s.session c with openBatch := none }, .ok (field 7 0 k) (field 5 0 (s.batchCount ⟨c, k⟩))) := by
  rw [closeBatch, hb]

/-- Settles O35: the refusal, and the session record with no open batch. -/
theorem batchCloses : Obligations.BatchCloses := by
  intro s c m h hr hcmd
  refine ⟨_, exec_batchClose_of_runs hr hcmd, fun hb => ?_, fun k hb => ?_⟩
  · rw [closeBatch_of_none hb]
    exact s.refuses_post c.window .batchClose .noBatch
  · rw [closeBatch_of_open hb]
    exact s.setSession_post c _ .batchClose _

/-! ### The search for a free serial (R78) -/

theorem serialFrom_zero {k : Nat} (hlo : 1 ≤ k) (hhi : k ≤ 255) : serialFrom k 0 = k := by
  unfold serialFrom
  omega

theorem serialAfter_range (k : Nat) : 1 ≤ serialAfter k ∧ serialAfter k ≤ 255 := by
  unfold serialAfter Config.serialLimit
  split <;> omega

/-- A step of the search is one step of the count. -/
theorem serialFrom_serialAfter {k : Nat} (hlo : 1 ≤ k) (hhi : k ≤ 255) (j : Nat) :
    serialFrom (serialAfter k) j = serialFrom k (j + 1) := by
  unfold serialFrom serialAfter Config.serialLimit
  split <;> omega

theorem serialAfter_serialFrom (k j : Nat) : serialAfter (serialFrom k j) = serialFrom k (j + 1) := by
  unfold serialFrom serialAfter Config.serialLimit
  split <;> omega

/-- The count comes to no serial twice within 255 steps. -/
theorem serialFrom_inj {k i j : Nat} (hi : i < 255) (hj : j < 255) (heq : serialFrom k i = serialFrom k j) : i = j := by
  unfold serialFrom at heq
  omega

theorem State.serialFree_iff {k : Nat} : s.serialFree c k = true ↔ ∀ e ∈ s.queue, e.tag ≠ some ⟨c, k⟩ := by
  simp [State.serialFree, Entry.carries]

theorem State.serialFree_eq_false {k : Nat} : s.serialFree c k = false ↔ ∃ e ∈ s.queue, e.tag = some ⟨c, k⟩ := by
  simp [State.serialFree, Entry.carries]

/-- The search answers the first free serial of the count that lies within its fuel. -/
theorem State.freeSerial_eq {k d fuel : Nat} (hlo : 1 ≤ k) (hhi : k ≤ 255) (hd : d < fuel)
    (hfree : s.serialFree c (serialFrom k d) = true) (hused : ∀ j < d, s.serialFree c (serialFrom k j) = false) :
    s.freeSerial c fuel k = serialFrom k d := by
  induction d generalizing k fuel with
  | zero =>
    obtain ⟨fuel, rfl⟩ := Nat.exists_eq_succ_of_ne_zero (Nat.ne_zero_of_lt hd)
    rw [serialFrom_zero hlo hhi] at hfree ⊢
    rw [State.freeSerial, if_pos hfree]
  | succ d ih =>
    obtain ⟨fuel, rfl⟩ := Nat.exists_eq_succ_of_ne_zero (Nat.ne_zero_of_lt hd)
    have hk : s.serialFree c k = false := by simpa [serialFrom_zero hlo hhi] using hused 0 d.succ_pos
    obtain ⟨hlo', hhi'⟩ := serialAfter_range k
    rw [State.freeSerial, hk, if_neg (by simp), ← serialFrom_serialAfter hlo hhi d]
    refine ih hlo' hhi' (Nat.lt_of_succ_lt_succ hd) ?_ fun j hj => ?_
    · rwa [serialFrom_serialAfter hlo hhi]
    · rw [serialFrom_serialAfter hlo hhi]
      exact hused (j + 1) (Nat.succ_lt_succ hj)

/-- Among 129 serials in a row one is free, since at most 128 entries carry a tag (R78). -/
theorem State.exists_serialFree (s : State) (c : ClientNo) (k : Nat) (hlen : s.queue.length ≤ 128) :
    ∃ d ≤ 128, s.serialFree c (serialFrom k d) = true := by
  by_contra! hall
  have hsub : (Finset.range 129).image (fun d => some (Tag.mk c (serialFrom k d))) ⊆ (s.queue.map Entry.tag).toFinset := by
    intro x hx
    obtain ⟨d, hd, rfl⟩ := Finset.mem_image.mp hx
    obtain ⟨e, he, htag⟩ :=
      State.serialFree_eq_false.mp (Bool.eq_false_iff.mpr (hall d (Nat.le_of_lt_succ (Finset.mem_range.mp hd))))
    exact List.mem_toFinset.mpr (List.mem_map.mpr ⟨e, he, htag⟩)
  have hinj : Set.InjOn (fun d => some (Tag.mk c (serialFrom k d))) (Finset.range 129) := by
    intro i hi j hj heq
    simp only [Finset.coe_range, Set.mem_Iio] at hi hj
    simp only [Option.some.injEq, Tag.mk.injEq, true_and] at heq
    exact serialFrom_inj (by omega) (by omega) heq
  have hcard : 129 ≤ s.queue.length :=
    calc 129 = ((Finset.range 129).image fun d => some (Tag.mk c (serialFrom k d))).card := by
          rw [Finset.card_image_of_injOn hinj, Finset.card_range]
      _ ≤ (s.queue.map Entry.tag).toFinset.card := Finset.card_le_card hsub
      _ ≤ (s.queue.map Entry.tag).length := List.toFinset_card_le _
      _ = s.queue.length := List.length_map _
  omega

/-- The search finds the first free serial within 129 steps (R78). -/
theorem State.freeSerial_first {k : Nat} (hlen : s.queue.length ≤ 128) (hlo : 1 ≤ k) (hhi : k ≤ 255) :
    ∃ d ≤ 128, s.freeSerial c Config.serialLimit k = serialFrom k d ∧ s.serialFree c (serialFrom k d) = true ∧
      ∀ j < d, s.serialFree c (serialFrom k j) = false := by
  obtain ⟨d, hd128, hfree⟩ := s.exists_serialFree c k hlen
  have hex : ∃ d, s.serialFree c (serialFrom k d) = true := ⟨d, hfree⟩
  have hd : Nat.find hex ≤ 128 := (Nat.find_min' hex hfree).trans hd128
  have hused : ∀ j < Nat.find hex, s.serialFree c (serialFrom k j) = false := fun j hj =>
    Bool.eq_false_iff.mpr (Nat.find_min hex hj)
  have hfuel : Nat.find hex < Config.serialLimit := Nat.lt_of_le_of_lt hd (by decide)
  exact ⟨Nat.find hex, hd, State.freeSerial_eq hlo hhi hfuel (Nat.find_spec hex) hused, Nat.find_spec hex, hused⟩

/-! ### BATCH_OPEN (R78) -/

/-- The completion of a BATCH_OPEN in progress (R105, R106). -/
theorem exec_batchOpen_of_runs (hr : RunsClient s c m h) (hcmd : h.command = .batchOpen) :
    exec .batchOpen s = .next ((openBatch c m h s).1.post c.window .batchOpen (openBatch c m h s).2) :=
  congrArg Host.Outcome.next (State.completeClient_of_command hr hcmd openBatch)

theorem openBatch_of_refused (hbad : (s.session c).openBatch ≠ none ∨ (s.map m).mode = .direct) :
    openBatch c m h s = (s, .refusal .wrongState) := by
  unfold openBatch
  obtain hb | hmode := hbad
  · rw [if_pos (Option.isSome_iff_ne_none.mpr hb)]
  · rw [if_pos hmode, ite_self]

theorem openBatch_of_deferred (hb : (s.session c).openBatch = none) (hmode : (s.map m).mode = .deferred) {k : Nat}
    (hk : s.freeSerial c Config.serialLimit (s.session c).nextSerial = k) :
    openBatch c m h s =
      (s.setSession c { s.session c with openBatch := some k, nextSerial := serialAfter k }, .ok (field 7 0 k) 0) := by
  simp [openBatch, hb, hmode, hk]

/-- Settles O34: the refusals, and the session record with the serial that the search finds. -/
theorem batchOpensSerial : Obligations.BatchOpensSerial := by
  intro s c m h hr hcmd
  refine ⟨_, exec_batchOpen_of_runs hr hcmd, fun hbad => ?_, fun hb hmode hlen hlo hhi => ?_⟩
  · rw [openBatch_of_refused hbad]
    exact s.refuses_post c.window .batchOpen .wrongState
  · obtain ⟨d, hd, hk, hfree, hused⟩ := State.freeSerial_first (c := c) hlen hlo hhi
    refine ⟨d, hd, State.serialFree_iff.mp hfree, fun j hj => State.serialFree_eq_false.mp (hused j hj), ?_⟩
    rw [openBatch_of_deferred hb hmode hk, serialAfter_serialFrom]
    exact s.setSession_post c _ .batchOpen _

end Sys2Proof.Machine
end

section
/-! Proofs on the commit walk (R84): the items of the queue, what the eligible ones before a position cost, and what the walk has
taken when it comes to a position and when it ends. -/

namespace Sys2Proof.Machine

variable {s : State}

/-! ### Items of the walk (R84) -/

theorem Entry.sameItem_of_single {e : Entry} (h : e.tag = none) : e.sameItem = (· == e) := by
  funext e'
  rw [Entry.sameItem, h]

theorem Entry.sameItem_of_tag {e : Entry} {t : Tag} (h : e.tag = some t) : e.sameItem = Entry.carries t := by
  funext e'
  rw [Entry.sameItem, h]

/-- Two entries of one item are the same entry, or carry the same tag. -/
theorem Entry.sameItem_iff {e e' : Entry} : e.sameItem e' = true ↔ e' = e ∨ e.tag ≠ none ∧ e'.tag = e.tag := by
  cases htag : e.tag with
  | none => simp [Entry.sameItem_of_single htag]
  | some t =>
    have hself : e' = e → e'.tag = some t := fun heq => heq ▸ htag
    simpa [Entry.sameItem_of_tag htag, Entry.carries] using hself

theorem Entry.sameItem_self (e : Entry) : e.sameItem e = true := Entry.sameItem_iff.mpr (.inl rfl)

theorem Entry.tag_eq_of_sameItem {e e' : Entry} (h : e.sameItem e' = true) : e'.tag = e.tag := by
  obtain rfl | ⟨-, htag⟩ := Entry.sameItem_iff.mp h
  · rfl
  · exact htag

/-- Two entries of one item have one and the same item. -/
theorem Entry.sameItem_congr {e e' : Entry} (h : e.sameItem e' = true) : e'.sameItem = e.sameItem := by
  obtain rfl | ⟨hne, htag⟩ := Entry.sameItem_iff.mp h
  · rfl
  · obtain ⟨t, ht⟩ := Option.ne_none_iff_exists'.mp hne
    rw [Entry.sameItem_of_tag ht, Entry.sameItem_of_tag (htag.trans ht)]

/-- An item is eligible whole: openness is a matter of the tag. -/
theorem State.inOpenBatch_of_sameItem {e e' : Entry} (h : e.sameItem e' = true) : s.inOpenBatch e' = s.inOpenBatch e := by
  unfold State.inOpenBatch
  rw [Entry.tag_eq_of_sameItem h]

theorem State.reachedAt_of_sameItem {e e' : Entry} (h : e.sameItem e' = true) : s.reachedAt e' = s.reachedAt e := by
  unfold State.reachedAt
  rw [Entry.sameItem_congr h]

theorem State.reachedAt_lt {e : Entry} (he : e ∈ s.queue) : s.reachedAt e < s.queue.length :=
  List.findIdx_lt_length_of_exists ⟨e, he, e.sameItem_self⟩

/-- The entry at which an item is reached belongs to it. -/
theorem State.sameItem_reachedAt {e : Entry} (he : e ∈ s.queue) :
    e.sameItem (s.queue[s.reachedAt e]'(State.reachedAt_lt he)) = true :=
  List.findIdx_getElem

/-- An item is reached no later than at any entry of it. -/
theorem State.reachedAt_le {i : Nat} (hi : i < s.queue.length) : s.reachedAt s.queue[i] ≤ i :=
  Nat.le_of_not_lt fun hlt => by
    have hnot : s.queue[i].sameItem s.queue[i] = false := List.not_of_lt_findIdx hlt
    simp [Entry.sameItem_self] at hnot

/-- What is reached at a position is the item of the entry that stands there. -/
theorem State.sameItem_of_reachedAt {e : Entry} {i : Nat} (he : e ∈ s.queue) (hi : i < s.queue.length)
    (h : s.reachedAt e = i) : e.sameItem s.queue[i] = true := by
  subst h
  exact State.sameItem_reachedAt he

/-- The entries of an item (R84). -/
def State.itemCount (s : State) (e : Entry) : Nat := s.queue.countP e.sameItem

theorem State.itemCount_of_tag {e : Entry} {t : Tag} (h : e.tag = some t) : s.itemCount e = s.batchCount t := by
  rw [State.itemCount, Entry.sameItem_of_tag h]
  rfl

theorem QueueHolds.queue_nodup (hq : QueueHolds s) : s.queue.Nodup := List.Nodup.of_map _ hq.once

/-- A single is an item of one entry (R75, R84). -/
theorem State.itemCount_of_single (hq : QueueHolds s) {e : Entry} (he : e ∈ s.queue) (h : e.tag = none) :
    s.itemCount e = 1 := by
  rw [State.itemCount, Entry.sameItem_of_single h]
  exact List.count_eq_one_of_mem hq.queue_nodup he

/-- An item has at most 32 entries (R76). -/
theorem State.itemCount_le (hq : QueueHolds s) {e : Entry} (he : e ∈ s.queue) : s.itemCount e ≤ 32 := by
  cases htag : e.tag with
  | none =>
    rw [State.itemCount_of_single hq he htag]
    decide
  | some t =>
    rw [State.itemCount_of_tag htag]
    exact hq.batch t

/-- A single is reached where it stands, since the queue names its cell once (R75). -/
theorem State.reachedAt_of_single (hq : QueueHolds s) {i : Nat} (hi : i < s.queue.length) (h : s.queue[i].tag = none) :
    s.reachedAt s.queue[i] = i := by
  have he : s.queue[i] ∈ s.queue := List.getElem_mem hi
  obtain heq | ⟨hne, -⟩ := Entry.sameItem_iff.mp (State.sameItem_reachedAt he)
  · exact (hq.queue_nodup.getElem_inj_iff).mp heq
  · exact absurd h hne

/-! ### What eligible items cost -/

/-- An entry outside open batches whose item is reached before a position, which a walk that comes there takes (R84). -/
def State.reachedBefore (s : State) (i : Nat) (e : Entry) : Bool := !s.inOpenBatch e && decide (s.reachedAt e < i)

/-- The number of entries that a walk takes on its way to a position (R84). -/
def State.costBefore (s : State) (i : Nat) : Nat := s.queue.countP (s.reachedBefore i)

theorem State.reachedBefore_iff {i : Nat} {e : Entry} :
    s.reachedBefore i e = true ↔ s.inOpenBatch e = false ∧ s.reachedAt e < i := by
  simp [State.reachedBefore]

theorem State.reachedBefore_zero (s : State) (e : Entry) : s.reachedBefore 0 e = false := by
  simp [State.reachedBefore]

/-- At an entry of an open batch, or of an item reached already, no eligible item is reached. -/
theorem State.reachedBefore_succ_of_pass {i : Nat} (hi : i < s.queue.length)
    (hpass : s.inOpenBatch s.queue[i] = true ∨ s.reachedAt s.queue[i] < i) {e : Entry} (he : e ∈ s.queue) :
    s.reachedBefore (i + 1) e = s.reachedBefore i e := by
  rw [Bool.eq_iff_iff, State.reachedBefore_iff, State.reachedBefore_iff]
  refine and_congr_right fun hopen => ?_
  have hne : s.reachedAt e ≠ i := fun hat => by
    have hitem := State.sameItem_of_reachedAt he hi hat
    obtain hmember | hlt := hpass
    · rw [State.inOpenBatch_of_sameItem hitem, hopen] at hmember
      exact Bool.false_ne_true hmember
    · rw [State.reachedAt_of_sameItem hitem] at hlt
      omega
  omega

/-- At an entry by which an eligible item is first reached, that whole item is reached. -/
theorem State.reachedBefore_succ_of_first {i : Nat} (hi : i < s.queue.length) (hopen : s.inOpenBatch s.queue[i] = false)
    (hfirst : s.reachedAt s.queue[i] = i) {e : Entry} (he : e ∈ s.queue) :
    s.reachedBefore (i + 1) e = (s.reachedBefore i e || s.queue[i].sameItem e) := by
  have hat : s.queue[i].sameItem e = true ↔ s.inOpenBatch e = false ∧ s.reachedAt e = i := by
    constructor
    · intro hitem
      exact ⟨(State.inOpenBatch_of_sameItem hitem).trans hopen, (State.reachedAt_of_sameItem hitem).trans hfirst⟩
    · rintro ⟨-, hat⟩
      rw [Entry.sameItem_congr (State.sameItem_of_reachedAt he hi hat)]
      exact e.sameItem_self
  rw [Bool.eq_iff_iff, Bool.or_eq_true, State.reachedBefore_iff, State.reachedBefore_iff, hat, ← and_or_left,
    Nat.lt_succ_iff_lt_or_eq]

theorem State.costThrough_eq (s : State) (e : Entry) : s.costThrough e = s.costBefore (s.reachedAt e + 1) := by
  refine List.countP_congr fun e' _ => ?_
  rw [State.reachedBefore_iff, Nat.lt_succ_iff, Bool.and_eq_true, Bool.not_eq_true', decide_eq_true_eq]

theorem State.costBefore_zero (s : State) : s.costBefore 0 = 0 := by
  simp [State.costBefore, State.reachedBefore_zero]

theorem State.costBefore_mono {i j : Nat} (h : i ≤ j) : s.costBefore i ≤ s.costBefore j := by
  refine List.countP_mono_left fun e _ he => ?_
  rw [State.reachedBefore_iff] at he ⊢
  exact ⟨he.1, he.2.trans_le h⟩

theorem State.costBefore_succ_of_pass {i : Nat} (hi : i < s.queue.length)
    (hpass : s.inOpenBatch s.queue[i] = true ∨ s.reachedAt s.queue[i] < i) : s.costBefore (i + 1) = s.costBefore i :=
  List.countP_congr fun _ he => by rw [State.reachedBefore_succ_of_pass hi hpass he]

/-- Conditions that nothing meets both of are counted apart. -/
theorem countP_or_of_disjoint {α : Type} {p q : α → Bool} {l : List α} (h : ∀ x ∈ l, p x = true → q x = false) :
    (l.countP fun x => p x || q x) = l.countP p + l.countP q := by
  induction l with
  | nil => rfl
  | cons x l ih =>
    have hx := h x List.mem_cons_self
    rw [List.countP_cons, List.countP_cons, List.countP_cons, ih fun y hy => h y (List.mem_cons_of_mem x hy)]
    cases hp : p x with
    | true =>
      rw [hx hp]
      simp only [Bool.or_false, if_true, Bool.false_eq_true, if_false]
      omega
    | false =>
      simp only [Bool.false_or, Bool.false_eq_true, if_false]
      omega

/-- An entry by which an eligible item is first reached costs the whole item. -/
theorem State.costBefore_succ_of_first {i : Nat} (hi : i < s.queue.length) (hopen : s.inOpenBatch s.queue[i] = false)
    (hfirst : s.reachedAt s.queue[i] = i) : s.costBefore (i + 1) = s.costBefore i + s.itemCount s.queue[i] := by
  have hsplit : s.costBefore (i + 1) = s.queue.countP fun e => s.reachedBefore i e || s.queue[i].sameItem e :=
    List.countP_congr fun _ he => by rw [State.reachedBefore_succ_of_first hi hopen hfirst he]
  rw [hsplit]
  refine countP_or_of_disjoint fun e _ hbefore => Bool.eq_false_iff.mpr fun hitem => ?_
  have hlt := (State.reachedBefore_iff.mp hbefore).2
  rw [State.reachedAt_of_sameItem hitem, hfirst] at hlt
  exact hlt.false

/-! ### The walk (R84) -/

/-- What the walk has taken, with one more item. -/
def Taken.add (k : Taken) (e : Entry) : Taken :=
  match e.tag with
  | none => { k with singles := e.cell :: k.singles }
  | some t => { k with batches := t :: k.batches }

theorem Taken.has_add {k : Taken} {e e' : Entry} :
    (k.add e).has e' = (k.has e' || e.sameItem e') := by
  obtain ⟨n, tag⟩ := e
  obtain ⟨n', tag'⟩ := e'
  rw [Bool.eq_iff_iff, Bool.or_eq_true, Entry.sameItem_iff]
  cases tag with
  | none => cases tag' <;> simp [Taken.add, Taken.has, or_comm]
  | some t =>
    cases tag' with
    | none => simp [Taken.add, Taken.has]
    | some t' =>
      have hself : n' = n ∧ t' = t → t' = t := And.right
      simp [Taken.add, Taken.has, or_comm, or_iff_left_of_imp hself]

/-- The walk at an entry: it passes over a member of an open batch or of a batch that it has taken, takes an item that fits, and
stops at one that does not (R84). -/
theorem State.walk_cons (hq : QueueHolds s) {e : Entry} (he : e ∈ s.queue) (rest : List Entry) (budget : Nat) {k : Taken}
    (hnew : e.tag = none → k.has e = false) :
    s.walk (e :: rest) budget k =
      if s.inOpenBatch e = true ∨ k.has e = true then s.walk rest budget k
      else if s.itemCount e ≤ budget then s.walk rest (budget - s.itemCount e) (k.add e)
      else k := by
  cases htag : e.tag with
  | none =>
    have hopen : s.inOpenBatch e = false := by rw [State.inOpenBatch, htag]
    rw [State.itemCount_of_single hq he htag, if_neg (by simp [hopen, hnew htag])]
    by_cases hb : budget = 0
    · simp [State.walk, htag, hb]
    · rw [if_pos (Nat.one_le_iff_ne_zero.mpr hb)]
      simp [State.walk, Taken.add, htag, hb]
  | some t =>
    rw [State.itemCount_of_tag htag]
    by_cases hopen : s.batchOpen t = true
    · simp [State.walk, State.inOpenBatch, htag, hopen]
    · by_cases hk : t ∈ k.batches
      · simp [State.walk, State.inOpenBatch, Taken.has, htag, hopen, hk]
      · simp [State.walk, State.inOpenBatch, Taken.has, Taken.add, htag, hopen, hk]

/-- The walk has come to a position with this budget left, and has taken exactly the eligible items reached before it (R84). -/
structure State.WalkAt (s : State) (i budget : Nat) (k : Taken) : Prop where
  taken : ∀ e ∈ s.queue, k.has e = s.reachedBefore i e
  left : budget + s.costBefore i = s.budget

theorem State.walkAt_start (s : State) : s.WalkAt 0 s.budget ⟨[], []⟩ where
  taken e _ := by
    rw [State.reachedBefore_zero]
    cases htag : e.tag <;> simp [Taken.has, htag]
  left := by rw [State.costBefore_zero, Nat.add_zero]

theorem State.WalkAt.within {i budget : Nat} {k : Taken} (h : s.WalkAt i budget k) : s.costBefore i ≤ s.budget :=
  Nat.le_of_add_left_le h.left.le

/-- The walk passes over an entry of an open batch, or of an item that it has reached. -/
theorem State.WalkAt.pass {i budget : Nat} {k : Taken} (h : s.WalkAt i budget k) (hi : i < s.queue.length)
    (hpass : s.inOpenBatch s.queue[i] = true ∨ s.reachedAt s.queue[i] < i) : s.WalkAt (i + 1) budget k where
  taken e he := by rw [h.taken e he, State.reachedBefore_succ_of_pass hi hpass he]
  left := by rw [State.costBefore_succ_of_pass hi hpass, h.left]

/-- The walk takes an eligible item that fits, at the entry by which it is first reached. -/
theorem State.WalkAt.take {i budget : Nat} {k : Taken} (h : s.WalkAt i budget k) (hi : i < s.queue.length)
    (hopen : s.inOpenBatch s.queue[i] = false) (hfirst : s.reachedAt s.queue[i] = i)
    (hfit : s.itemCount s.queue[i] ≤ budget) :
    s.WalkAt (i + 1) (budget - s.itemCount s.queue[i]) (k.add s.queue[i]) where
  taken e he := by rw [Taken.has_add, h.taken e he, State.reachedBefore_succ_of_first hi hopen hfirst he]
  left := by
    have hleft := h.left
    rw [State.costBefore_succ_of_first hi hopen hfirst]
    omega

/-- Where the walk ends: it has taken the eligible items reached before some position, which fit in the budget, and there the
queue ends or the next item does not fit (R84). -/
structure State.WalkEnds (s : State) (i : Nat) (k : Taken) : Prop where
  taken : ∀ e ∈ s.queue, k.has e = s.reachedBefore i e
  within : s.costBefore i ≤ s.budget
  stop : i = s.queue.length ∨ s.budget < s.costBefore (i + 1)

/-- A walk that has come to a position comes to an end. -/
theorem State.WalkAt.ends (hq : QueueHolds s) {rest : List Entry} {i budget : Nat} {k : Taken} (h : s.WalkAt i budget k)
    (hi : i ≤ s.queue.length) (hrest : s.queue.drop i = rest) : ∃ j, s.WalkEnds j (s.walk rest budget k) := by
  induction rest generalizing i budget k with
  | nil => exact ⟨i, h.taken, h.within, .inl (Nat.le_antisymm hi (List.drop_eq_nil_iff.mp hrest))⟩
  | cons e rest ih =>
    have hlt : i < s.queue.length := by
      by_contra hge
      rw [List.drop_eq_nil_of_le (Nat.le_of_not_lt hge)] at hrest
      exact List.cons_ne_nil e rest hrest.symm
    obtain ⟨rfl, hdrop⟩ := List.cons.inj ((List.drop_eq_getElem_cons hlt).symm.trans hrest)
    have he : s.queue[i] ∈ s.queue := List.getElem_mem hlt
    have hnew (hsingle : s.queue[i].tag = none) : k.has s.queue[i] = false := by
      rw [h.taken _ he, Bool.eq_false_iff, Ne, State.reachedBefore_iff, State.reachedAt_of_single hq hlt hsingle]
      exact fun hreached => hreached.2.false
    rw [State.walk_cons hq he rest budget hnew]
    by_cases hpass : s.inOpenBatch s.queue[i] = true ∨ k.has s.queue[i] = true
    · rw [if_pos hpass]
      have hnext := h.pass hlt (hpass.imp_right fun hk => (State.reachedBefore_iff.mp ((h.taken _ he).symm.trans hk)).2)
      exact ih hnext hlt hdrop
    · rw [if_neg hpass]
      obtain ⟨hopen, hk⟩ := not_or.mp hpass
      rw [Bool.not_eq_true] at hopen
      rw [h.taken _ he, State.reachedBefore_iff] at hk
      have hfirst : s.reachedAt s.queue[i] = i :=
        Nat.le_antisymm (State.reachedAt_le hlt) (Nat.le_of_not_lt fun hbefore => hk ⟨hopen, hbefore⟩)
      by_cases hfit : s.itemCount s.queue[i] ≤ budget
      · rw [if_pos hfit]
        have hnext := h.take hlt hopen hfirst hfit
        exact ih hnext hlt hdrop
      · rw [if_neg hfit]
        refine ⟨i, h.taken, h.within, .inr ?_⟩
        have hleft := h.left
        rw [State.costBefore_succ_of_first hlt hopen hfirst]
        omega

/-- The commit walk comes to an end (R84). -/
theorem State.committed_ends (hq : QueueHolds s) : ∃ i, s.WalkEnds i s.committed :=
  s.walkAt_start.ends hq (Nat.zero_le _) List.drop_zero

/-- Where the walk ends, what it has taken is what the budget covers. -/
theorem State.WalkEnds.has_iff {i : Nat} {k : Taken} (h : s.WalkEnds i k) {e : Entry} (he : e ∈ s.queue) :
    k.has e = true ↔ s.inOpenBatch e = false ∧ s.costThrough e ≤ s.budget := by
  rw [h.taken e he, State.reachedBefore_iff, State.costThrough_eq]
  refine and_congr_right fun _ => ⟨fun hlt => (State.costBefore_mono hlt).trans h.within, fun hcost => ?_⟩
  by_contra hge
  obtain rfl | hover := h.stop
  · exact hge (State.reachedAt_lt he)
  · have hmono : s.costBefore (i + 1) ≤ s.costBefore (s.reachedAt e + 1) := State.costBefore_mono (by omega)
    omega

/-- The walk takes at most the budget (R84). -/
theorem State.WalkEnds.countP_le {i : Nat} {k : Taken} (h : s.WalkEnds i k) : s.queue.countP k.has ≤ s.budget :=
  calc s.queue.countP k.has = s.costBefore i := List.countP_congr fun e he => by rw [h.taken e he]
    _ ≤ s.budget := h.within

/-- The eligible items up to that of the first eligible entry are its own alone. -/
theorem State.costThrough_of_first {e : Entry} (h : s.queue.find? (fun e => !s.inOpenBatch e) = some e) :
    s.costThrough e ≤ s.itemCount e := by
  obtain ⟨-, i, hi, rfl, hlow⟩ := List.find?_eq_some_iff_getElem.mp h
  refine List.countP_mono_left fun e' he' hreached => ?_
  simp only [Bool.and_eq_true, Bool.not_eq_true', decide_eq_true_eq] at hreached
  obtain ⟨hopen, hle⟩ := hreached
  have hitem := State.sameItem_reachedAt he'
  have hat : s.reachedAt e' = i := by
    refine Nat.le_antisymm (hle.trans (State.reachedAt_le hi)) (Nat.le_of_not_lt fun hbelow => ?_)
    have hmember := hlow _ hbelow
    rw [State.inOpenBatch_of_sameItem hitem, hopen] at hmember
    exact Bool.noConfusion hmember
  rw [Entry.sameItem_congr (State.sameItem_of_reachedAt he' hi hat)]
  exact e'.sameItem_self

/-- Settles O48: the walk ends where the queue does or at an item that does not fit, and one item of at most 32 entries always
fits. -/
theorem walkTakes : Obligations.WalkTakes := by
  refine ⟨fun s hq e he => ?_, fun s hq => ?_, fun s e hq hranges hfirst => ?_⟩
  · obtain ⟨i, hends⟩ := State.committed_ends hq
    exact hends.has_iff he
  · obtain ⟨i, hends⟩ := State.committed_ends hq
    exact hends.countP_le
  · obtain ⟨i, hends⟩ := State.committed_ends hq
    have he : e ∈ s.queue := List.mem_of_find?_eq_some hfirst
    have hopen : s.inOpenBatch e = false := by simpa using List.find?_some hfirst
    have hcost : s.costThrough e ≤ s.budget :=
      calc s.costThrough e ≤ s.itemCount e := State.costThrough_of_first hfirst
        _ ≤ 32 := State.itemCount_le hq he
        _ ≤ s.budget := hranges.budget.1
    exact (hends.has_iff he).mpr ⟨hopen, hcost⟩

end Sys2Proof.Machine
end

section
/-! Proofs on the accesses that HI judges (R95 to R97, R100, R101, R128, R129): whom the binding permits, what a command write
by a permitted master comes to, and what a denied access leaves. -/

namespace Sys2Proof.Machine

variable {s : State}

/-! ### Strangers (R100, R128) -/

theorem State.isStranger_ws_iff {b : MasterNo} : s.IsStranger .ws b ↔ s.supMaster ≠ b := by
  simp [State.IsStranger, ws_ne_client_window]

theorem State.isStranger_client_iff {c : ClientNo} {b : MasterNo} :
    s.IsStranger (ClientNo.window c) b ↔ ∃ x, (s.session c).state.master? = some x ∧ x ≠ b := by
  constructor
  · rintro (⟨hws, -⟩ | ⟨c', x, hw, hx, hne⟩)
    · exact absurd hws (client_window_ne_ws c)
    · obtain rfl := client_window_injective hw
      exact ⟨x, hx, hne⟩
  · rintro ⟨x, hx, hne⟩
    exact .inr ⟨c, x, rfl, hx, hne⟩

/-- HI denies the strangers to a window and no other master (R100, R128). -/
theorem State.permitted_eq_false_iff {w : WindowNo} {b : MasterNo} : s.permitted w b = false ↔ s.IsStranger w b := by
  cases w using Fin.lastCases with
  | last => rw [State.isStranger_ws_iff, State.permitted_ws, beq_eq_false_iff_ne]
  | cast c =>
    rw [State.isStranger_client_iff, State.permitted_client]
    cases (s.session c).state.master? <;> simp

theorem State.permitted_of_not_stranger {w : WindowNo} {b : MasterNo} (h : ¬ s.IsStranger w b) : s.permitted w b = true :=
  Bool.eq_true_of_not_eq_false (h ∘ State.permitted_eq_false_iff.mp)

/-! ### Windows that take commands (R95) -/

theorem SessionState.isSome_openMap? (x : SessionState) : x.openMap?.isSome = x.isOpen := by cases x <;> rfl

theorem State.windowOpen_client (s : State) (c : ClientNo) :
    s.windowOpen (ClientNo.window c) = (s.session c).state.isOpen := by
  simp [State.windowOpen, SessionState.isSome_openMap?]

theorem State.windowOpen_ws (s : State) : s.windowOpen .ws = true := rfl

theorem State.windowOpen_of_sessions {w : WindowNo}
    (h : ∀ c, w = ClientNo.window c → (s.session c).state.isOpen = true) : s.windowOpen w = true := by
  cases w using Fin.lastCases with
  | last => exact s.windowOpen_ws
  | cast c => rw [← h c rfl, ← s.windowOpen_client c]

/-! ### The judging of a command write (R95, R96, R97) -/

theorem wellFormed_commandWrite_iff {w : WindowNo} {b : MasterNo} {data : Word} :
    (Instr.commandWrite w b data).wellFormed = true ↔ ¬ (w = .ws ∧ data.setWidth 8 = (0x1F : BitVec 8)) := by
  simp [Instr.wellFormed, partResetCode, imp_iff_not_or]

/-- The window that HI answers a write to its CMD in (R95). -/
theorem State.answerWrite_eq (s : State) (w : WindowNo) (code : BitVec 8) (r : ResultCode) :
    s.answerWrite w code r = s.setWindow w ((s.window w).answered code r) := rfl

section CommandWrite

variable {w : WindowNo} {data : Word} (hslot : ¬ (w = .ws ∧ data.setWidth 8 = (0x1F : BitVec 8)))

include hslot

/-- A write to a slot that holds a command is lost, and OVERRUN says so (R96). -/
theorem State.commandWrite_of_held (hheld : (s.window w).slot.held? ≠ none) :
    s.commandWrite w data = s.setWindow w { s.window w with overrun := true } := by
  simp only [State.commandWrite, if_neg hslot]
  cases hx : (s.window w).slot with
  | empty | complete => simp [hx, Slot.held?] at hheld
  | waiting _ | running _ => rfl

/-- A write to a slot that holds no command turns on the code and then on the window's session (R95). -/
theorem State.commandWrite_of_free (hfree : (s.window w).slot.held? = none) :
    s.commandWrite w data =
      match commandAt w (data.setWidth 8) with
      | none => s.answerWrite w (data.setWidth 8) .badCommand
      | some cmd => if s.windowOpen w then s.accept w cmd else s.answerWrite w (data.setWidth 8) .closed := by
  simp only [State.commandWrite, if_neg hslot]
  cases hx : (s.window w).slot with
  | empty | complete => rfl
  | waiting _ | running _ => simp [hx, Slot.held?] at hfree

theorem State.commandWrite_of_unknown (hfree : (s.window w).slot.held? = none)
    (hcode : commandAt w (data.setWidth 8) = none) :
    s.commandWrite w data = s.setWindow w ((s.window w).answered (data.setWidth 8) .badCommand) := by
  rw [State.commandWrite_of_free hslot hfree, hcode, State.answerWrite_eq]

theorem State.commandWrite_of_closed {cmd : Command} (hfree : (s.window w).slot.held? = none)
    (hcode : commandAt w (data.setWidth 8) = some cmd) (hclosed : s.windowOpen w = false) :
    s.commandWrite w data = s.setWindow w ((s.window w).answered (data.setWidth 8) .closed) := by
  simp [State.commandWrite_of_free hslot hfree, hcode, hclosed, State.answerWrite_eq]

theorem State.commandWrite_of_open {cmd : Command} (hfree : (s.window w).slot.held? = none)
    (hcode : commandAt w (data.setWidth 8) = some cmd) (hopen : s.windowOpen w = true) :
    s.commandWrite w data = s.accept w cmd := by
  simp [State.commandWrite_of_free hslot hfree, hcode, hopen]

/-- Whatever its judgement, a command write changes the addressed window alone (R95). -/
theorem State.commandWrite_eq_setWindow : s.commandWrite w data = s.setWindow w ((s.commandWrite w data).window w) := by
  suffices h : ∃ x, s.commandWrite w data = s.setWindow w x by
    obtain ⟨x, hx⟩ := h
    rw [hx, State.window_setWindow_self]
  by_cases hheld : (s.window w).slot.held? = none
  · cases hcode : commandAt w (data.setWidth 8) with
    | none => exact ⟨_, State.commandWrite_of_unknown hslot hheld hcode⟩
    | some cmd =>
      cases hopen : s.windowOpen w with
      | false => exact ⟨_, State.commandWrite_of_closed hslot hheld hcode hopen⟩
      | true => exact ⟨_, State.commandWrite_of_open hslot hheld hcode hopen⟩
  · exact ⟨_, State.commandWrite_of_held hslot hheld⟩

end CommandWrite

/-- Settles O15: each judgement of HI in its order, and that all of them write the addressed window alone. -/
theorem commandWriteIsJudged : Obligations.CommandWriteIsJudged := by
  intro s w b data hpower hbound hform
  have hslot := wellFormed_commandWrite_iff.mp hform
  refine ⟨_, execCommandWrite_of_permitted hpower (State.permitted_of_not_stranger hbound) data,
    State.commandWrite_eq_setWindow hslot, fun hheld => ?overrun,
    fun hfree => ⟨fun hcode => ?unknown, fun cmd hcode => ⟨?closed, fun hsession => ?accepted⟩⟩⟩
  case overrun => rw [State.commandWrite_of_held hslot hheld, State.window_setWindow_self]
  case unknown => rw [State.commandWrite_of_unknown hslot hfree hcode, State.window_setWindow_self]
  case closed =>
    rintro ⟨c, rfl, hsession⟩
    have hclosed := (s.windowOpen_client c).trans hsession
    rw [State.commandWrite_of_closed hslot hfree hcode hclosed, State.window_setWindow_self]
  case accepted =>
    have hopen := State.windowOpen_of_sessions hsession
    rw [State.commandWrite_of_open hslot hfree hcode hopen, State.accept, State.window_setWindow_self]

/-! ### Denied accesses (R101, R129) -/

/-- Every row of a host port access is that access, judged by HI (R100, R128, R154). -/
theorem exec_of_accessOf {i : Instr} {w : WindowNo} {b : MasterNo} {offset : Offset} {a : Access}
    (h : accessOf i = some (w, b, offset, a)) : exec i s = .next (s.access w b offset a) := by
  cases i with
  | commandWrite | partReset | evPendWrite | evEnWrite | faultWrite | inspSelWrite | inspDataRead =>
    cases h
    rfl
  | deniedAccess k b offset a =>
    obtain ⟨w, hw, heq⟩ := Option.map_eq_some_iff.mp h
    cases heq
    exact congrArg (fun x => Host.Outcome.next (s.accessAt x b offset a)) hw
  | registerWrite addr b data =>
    obtain ⟨w, hw, heq⟩ := Option.map_eq_some_iff.mp h
    cases heq
    exact congrArg (fun x => Host.Outcome.next (s.accessAt x b (addrOffset addr) (.write data))) hw
  | _ => cases h

/-- The fault record keeps the report it has, and takes one where it is empty (R129). -/
theorem State.report_fault (s : State) (r : FaultReport) : (s.report r).fault = some (s.fault.getD r) := by
  unfold State.report
  split <;> simp_all

/-- MORE says that a report was not taken (R129). -/
theorem State.report_more (s : State) (r : FaultReport) : (s.report r).more = (s.more || s.fault.isSome) := by
  unfold State.report
  split <;> simp_all

theorem State.report_eq (s : State) (r : FaultReport) :
    s.report r = { s with fault := (s.report r).fault, more := (s.report r).more } := by
  unfold State.report
  split <;> rfl

section Deny

variable (s : State) (w : WindowNo) (b : MasterNo) (offset : Offset) (a : Access)

theorem State.deny_read :
    s.deny w b offset .read = ((s.raise .ws .accessDenied).report ⟨w, b, offset, false⟩).answerRead 0 := rfl

theorem State.deny_write (data : Word) :
    s.deny w b offset (.write data) = (s.raise .ws .accessDenied).report ⟨w, b, offset, true⟩ := rfl

/-- A denied access changes no window but for ACCESS_DENIED in WS (R101). -/
theorem State.deny_eq :
    s.deny w b offset a =
      { s.setWindow .ws ((s.window .ws).signalled Event.accessDenied.bit) with
        fault := (s.deny w b offset a).fault
        more := (s.deny w b offset a).more
        readData := (s.deny w b offset a).readData } := by
  cases a with
  | read => rw [State.deny_read, State.report_eq]; rfl
  | write data => rw [State.deny_write, State.report_eq]; rfl

theorem State.deny_fault : (s.deny w b offset a).fault = some (s.fault.getD ⟨w, b, offset, accessWrites a⟩) := by
  cases a with
  | read => exact State.report_fault _ _
  | write data => exact State.report_fault _ _

theorem State.deny_more : (s.deny w b offset a).more = (s.more || s.fault.isSome) := by
  cases a with
  | read => exact State.report_more _ _
  | write data => exact State.report_more _ _

theorem State.deny_write_readData (data : Word) : (s.deny w b offset (.write data)).readData = s.readData := by
  rw [State.deny_write, State.report_eq]
  rfl

end Deny

/-- Settles O58: every row that makes an access is judged alike, and a denial touches the event, the fault record and HD. -/
theorem denialIsReported : Obligations.DenialIsReported := by
  intro s i w b offset a hpower haccess hstranger
  have hexec : exec i s = .next (s.deny w b offset a) := by
    rw [exec_of_accessOf haccess, State.access_of_denied hpower (State.permitted_eq_false_iff.mpr hstranger)]
  refine ⟨_, hexec, s.deny_eq w b offset a, fun hempty => ?empty, fun hfull => ?full, ?read, ?write⟩
  case empty => simp [State.deny_fault, State.deny_more, hempty]
  case full =>
    obtain ⟨r, hr⟩ := Option.ne_none_iff_exists'.mp hfull
    simp [State.deny_fault, State.deny_more, hr]
  case read =>
    rintro rfl
    rfl
  case write =>
    intro hwrite
    cases a with
    | read => exact absurd rfl hwrite
    | write data => exact s.deny_write_readData w b offset data

end Sys2Proof.Machine
end

section
/-! Proofs on the supervisor's session commands (R114, R115, R117 to R119): the completions of CLIENT_OPEN, CLIENT_QUOTA and
CLIENT_CLOSE. -/

namespace Sys2Proof.Machine

variable {s : State} {c : ClientNo} {h : Held}

/-- The row of the supervisor command in progress completes it (R105, R106). -/
theorem State.completeSupervisor_of_command {cmd : Command} (hr : RunsSupervisor s h) (hcmd : h.command = cmd)
    (body : Held → State → State × Reply) : s.completeSupervisor cmd body = (body h s).1.post .ws cmd (body h s).2 := by
  subst hcmd
  exact State.completeSupervisor_of_runs hr body

/-! ### CLIENT_OPEN (R114, R115) -/

/-- The completion of a CLIENT_OPEN in progress (R105, R106). -/
theorem exec_clientOpen_of_runs (hr : RunsSupervisor s h) (hcmd : h.command = .clientOpen) :
    exec .clientOpen s = .next ((openClient h s).1.post .ws .clientOpen (openClient h s).2) :=
  congrArg Host.Outcome.next (State.completeSupervisor_of_command hr hcmd openClient)

theorem openMapArg_eq_some {w : Word} {m : MapNo} : openMapArg w = some m ↔ bits 7 0 w = m.val := by
  unfold openMapArg
  split
  · simp [Fin.ext_iff]
  · have := m.isLt
    simp
    omega

theorem openMapArg_eq_none {w : Word} : openMapArg w = none ↔ 3 < bits 7 0 w := by
  unfold openMapArg
  split <;> simp <;> omega

theorem openMasterArg_eq_some {w : Word} {b : MasterNo} : openMasterArg w = some b ↔ bits 15 8 w = b.val := by
  unfold openMasterArg
  split
  · simp [Fin.ext_iff]
  · have := b.isLt
    simp
    omega

theorem openMasterArg_eq_none {w : Word} : openMasterArg w = none ↔ 7 < bits 15 8 w := by
  unfold openMasterArg
  split <;> simp <;> omega

theorem openClient_of_no_client (hc : 7 < h.arg0.toNat) : openClient h s = (s, .refusal .badArgument) := by
  simp [openClient, clientArg_eq_none.mpr hc]

theorem openClient_of_not_closed (hc : h.arg0.toNat = c.val) (hs : (s.session c).state ≠ .closed) :
    openClient h s = (s, .refusal .wrongState) := by
  simp [openClient, clientArg_eq_some.mpr hc, hs]

/-- CLIENT_OPEN of a CLOSED session with a map, master, quota or warning level out of range (R114). -/
theorem openClient_of_bad_argument (hc : h.arg0.toNat = c.val) (hs : (s.session c).state = .closed)
    (hbad : 3 < bits 7 0 h.arg1 ∨ 7 < bits 15 8 h.arg1 ∨ 256 < bits 15 0 h.arg2 ∨ 256 < bits 31 16 h.arg2) :
    openClient h s = (s, .refusal .badArgument) := by
  simp only [openClient, clientArg_eq_some.mpr hc, hs, ne_eq, not_true_eq_false, if_false]
  split
  next m b hm hb =>
    have hmap : ¬ 3 < bits 7 0 h.arg1 := by simp [← openMapArg_eq_none, hm]
    have hmaster : ¬ 7 < bits 15 8 h.arg1 := by simp [← openMasterArg_eq_none, hb]
    rw [if_pos (by simpa [hmap, hmaster, Config.quotaLimit] using hbad)]
  next => rfl

/-- CLIENT_OPEN whose checks pass (R114, R115). -/
theorem openClient_of_arguments {m : MapNo} {b : MasterNo} (hc : h.arg0.toNat = c.val)
    (hs : (s.session c).state = .closed) (hm : bits 7 0 h.arg1 = m.val) (hb : bits 15 8 h.arg1 = b.val)
    (hquota : bits 15 0 h.arg2 ≤ 256) (hwarning : bits 31 16 h.arg2 ≤ 256) :
    openClient h s =
      ((s.setSession c (.opened m b (bits 15 0 h.arg2) (bits 31 16 h.arg2))).setWindow c.window (s.window c.window).opened,
        .ok (field 2 0 c.val) (field 1 0 m.val)) := by
  have hlimits : ¬ (Config.quotaLimit < bits 15 0 h.arg2 ∨ Config.quotaLimit < bits 31 16 h.arg2) := by
    simp only [Config.quotaLimit]
    omega
  simp only [openClient, clientArg_eq_some.mpr hc, hs, ne_eq, not_true_eq_false, if_false, openMapArg_eq_some.mpr hm,
    openMasterArg_eq_some.mpr hb, if_neg hlimits]

/-- A level of a client with charge 0 is armed where it is not 0 (R66). -/
theorem armedFor_zero (warning : Nat) : armedFor warning 0 = decide (warning ≠ 0) := by
  simp [armedFor, Nat.pos_iff_ne_zero]

/-- Settles O36: the refusals in the check order of R114, and the record and the window that R115 sets. -/
theorem clientOpens : Obligations.ClientOpens := by
  intro s h hr hcmd
  refine ⟨_, exec_clientOpen_of_runs hr hcmd, fun hc => ?client, fun c hc => ⟨fun hs => ?state, fun hs =>
    ⟨fun hbad => ?argument, fun m b hm hb hquota hwarning => ?opens⟩⟩⟩
  case client =>
    rw [openClient_of_no_client hc]
    exact s.refuses_post .ws .clientOpen .badArgument
  case state =>
    rw [openClient_of_not_closed hc hs]
    exact s.refuses_post .ws .clientOpen .wrongState
  case argument =>
    rw [openClient_of_bad_argument hc hs hbad]
    exact s.refuses_post .ws .clientOpen .badArgument
  case opens =>
    rw [openClient_of_arguments hc hs hm hb hquota hwarning, ← armedFor_zero]
    refine ⟨by simp [Session.opened], fun d hd => by simp [hd], ?_, ?_, fun w hne hws => ?_, rfl, rfl, rfl, rfl,
      KeepsRest.post (by constructor <;> rfl) _ _ _⟩
    · rw [State.window_post, if_neg (client_window_ne_ws c), State.window_setWindow_self, Window.opened]
    · rw [State.window_post, if_pos rfl, State.window_setWindow_ne _ _ _ _ (ws_ne_client_window c), State.window_setSession]
    · rw [State.window_post, if_neg hws, State.window_setWindow_ne _ _ _ _ hne, State.window_setSession]

/-! ### CLIENT_QUOTA (R117) -/

/-- The completion of a CLIENT_QUOTA in progress (R105, R106). -/
theorem exec_clientQuota_of_runs (hr : RunsSupervisor s h) (hcmd : h.command = .clientQuota) :
    exec .clientQuota s = .next ((setQuota h s).1.post .ws .clientQuota (setQuota h s).2) :=
  congrArg Host.Outcome.next (State.completeSupervisor_of_command hr hcmd setQuota)

theorem setQuota_of_no_client (hc : 7 < h.arg0.toNat) : setQuota h s = (s, .refusal .badArgument) := by
  simp [setQuota, clientArg_eq_none.mpr hc]

theorem setQuota_of_not_open (hc : h.arg0.toNat = c.val) (hs : (s.session c).state.isOpen = false) :
    setQuota h s = (s, .refusal .wrongState) := by
  simp [setQuota, clientArg_eq_some.mpr hc, hs]

/-- CLIENT_QUOTA of an OPEN session with a quota or level out of range, or a quota below the charge (R117). -/
theorem setQuota_of_bad_argument (hc : h.arg0.toNat = c.val) (hs : (s.session c).state.isOpen = true)
    (hbad : 256 < h.arg1.toNat ∨ 256 < h.arg2.toNat ∨ h.arg1.toNat < (s.session c).charge) :
    setQuota h s = (s, .refusal .badArgument) := by
  simp only [setQuota, clientArg_eq_some.mpr hc, hs, Bool.not_true, Bool.false_eq_true, if_false]
  split
  next => rfl
  next hlimits =>
    simp only [Config.quotaLimit] at hlimits
    rw [if_pos (by omega)]

/-- CLIENT_QUOTA whose checks pass (R117). -/
theorem setQuota_of_arguments (hc : h.arg0.toNat = c.val) (hs : (s.session c).state.isOpen = true)
    (hquota : h.arg1.toNat ≤ 256) (hwarning : h.arg2.toNat ≤ 256) (hcharge : (s.session c).charge ≤ h.arg1.toNat) :
    setQuota h s =
      (s.setSession c
        { s.session c with
          quota := h.arg1.toNat
          warning := h.arg2.toNat
          armed := armedFor h.arg2.toNat (s.session c).charge },
        .ok (field 2 0 c.val) (field 8 0 (s.session c).charge)) := by
  have hlimits : ¬ (Config.quotaLimit < h.arg1.toNat ∨ Config.quotaLimit < h.arg2.toNat) := by
    simp only [Config.quotaLimit]
    omega
  simp only [setQuota, clientArg_eq_some.mpr hc, hs, Bool.not_true, Bool.false_eq_true, if_false, if_neg hlimits,
    if_neg (Nat.not_lt.mpr hcharge)]

/-- Settles O37: the refusals in the check order of R117, and the one session record that a pass replaces. -/
theorem clientQuotaSets : Obligations.ClientQuotaSets := by
  intro s h hr hcmd
  refine ⟨_, exec_clientQuota_of_runs hr hcmd, fun hc => ?client, fun c hc => ⟨fun hs => ?state, fun hs =>
    ⟨fun hbad => ?argument, fun hquota hwarning hcharge => ?sets⟩⟩⟩
  case client =>
    rw [setQuota_of_no_client hc]
    exact s.refuses_post .ws .clientQuota .badArgument
  case state =>
    rw [setQuota_of_not_open hc hs]
    exact s.refuses_post .ws .clientQuota .wrongState
  case argument =>
    rw [setQuota_of_bad_argument hc hs hbad]
    exact s.refuses_post .ws .clientQuota .badArgument
  case sets =>
    rw [setQuota_of_arguments hc hs hquota hwarning hcharge]
    exact ⟨State.posts_post (by simp) (fun w _ => s.window_setSession c _ w) _ _, s.session_setSession_self c _,
      fun d hd => s.session_setSession_ne c _ d hd, rfl, rfl, rfl, KeepsRest.post (by constructor <;> rfl) _ _ _⟩

/-! ### CLIENT_CLOSE (R118, R119) -/

/-- The completion of a CLIENT_CLOSE in progress (R105, R106). -/
theorem exec_clientClose_of_runs (hr : RunsSupervisor s h) (hcmd : h.command = .clientClose) :
    exec .clientClose s = .next ((closeClient h s).1.post .ws .clientClose (closeClient h s).2) :=
  congrArg Host.Outcome.next (State.completeSupervisor_of_command hr hcmd closeClient)

theorem closeClient_of_no_client (hc : 7 < h.arg0.toNat) : closeClient h s = (s, .refusal .badArgument) := by
  simp [closeClient, clientArg_eq_none.mpr hc]

theorem closeClient_of_not_open (hc : h.arg0.toNat = c.val) (hs : (s.session c).state.isOpen = false) :
    closeClient h s = (s, .refusal .wrongState) := by
  simp only [closeClient, clientArg_eq_some.mpr hc]
  split
  next m b hopen =>
    rw [hopen] at hs
    exact absurd hs.symm Bool.false_ne_true
  next => rfl
  next => rfl

/-- CLIENT_CLOSE of an OPEN session is decided by whether a teardown is pending (R118). -/
theorem closeClient_of_open {m : MapNo} {b : MasterNo} (hc : h.arg0.toNat = c.val)
    (hs : (s.session c).state = .opened m b) :
    closeClient h s =
      if s.teardownBusy then (s, .refusal .teardownBusy)
      else (closeSession c m b s, .ok (field 2 0 c.val) (field 8 0 (s.session c).charge)) := by
  simp only [closeClient, clientArg_eq_some.mpr hc, hs]

/-- A window with a WAITING command: it is answered CLOSED, with REVOKED pending beside DONE (R119). -/
theorem Window.revoked_of_waiting {x : Window} {held : Held} (hx : x.slot = .waiting held) :
    x.revoked = x.completed held.command (.refusal .closed) Event.revoked.bit := by
  simp [Window.revoked, hx, Window.answer, Window.raise, Window.completed]

/-- A window with no WAITING command has REVOKED pending and is else as it was (R119). -/
theorem Window.revoked_of_not_waiting {x : Window} (hx : x.slot.isWaiting = false) :
    x.revoked = x.signalled Event.revoked.bit := by
  unfold Window.revoked
  split
  next held hslot =>
    rw [hslot] at hx
    exact absurd hx.symm Bool.false_ne_true
  next => rfl
  next => rfl
  next => rfl

theorem window_closeSession (s : State) (c : ClientNo) (m : MapNo) (b : MasterNo) (w : WindowNo) :
    (closeSession c m b s).window w = if w = c.window then (s.window c.window).revoked else s.window w :=
  State.window_setWindow _ c.window _ w

theorem session_closeSession (s : State) (c : ClientNo) (m : MapNo) (b : MasterNo) (d : ClientNo) :
    (closeSession c m b s).session d =
      if d = c then { s.session c with state := .closing m b, openBatch := none } else s.session d :=
  s.session_setSession c _ d

/-- Settles O38: the refusals in the check order of R118, and `closeSession` with the charge posted in WS. -/
theorem clientCloses : Obligations.ClientCloses := by
  intro s h hr hcmd
  refine ⟨_, exec_clientClose_of_runs hr hcmd, fun hc => ?client, fun c hc => ⟨fun hs => ?state, fun m b hs =>
    ⟨fun hbusy => ?busy, fun hfree => ?closes⟩⟩⟩
  case client =>
    rw [closeClient_of_no_client hc]
    exact s.refuses_post .ws .clientClose .badArgument
  case state =>
    rw [closeClient_of_not_open hc hs]
    exact s.refuses_post .ws .clientClose .wrongState
  case busy =>
    rw [closeClient_of_open hc hs, if_pos hbusy]
    exact s.refuses_post .ws .clientClose .teardownBusy
  case closes =>
    rw [closeClient_of_open hc hs, if_neg (by simp [hfree])]
    have hwindow : ((closeSession c m b s).post .ws .clientClose
        (.ok (field 2 0 c.val) (field 8 0 (s.session c).charge))).window c.window = (s.window c.window).revoked := by
      rw [State.window_post, if_neg (client_window_ne_ws c), window_closeSession, if_pos rfl]
    refine ⟨?_, fun d hd => ?_, fun held hheld => ?_, fun hidle => ?_, ?_, fun w hne hws => ?_, rfl⟩
    · rw [State.session_post, session_closeSession, if_pos rfl]
    · rw [State.session_post, session_closeSession, if_neg hd]
    · rw [hwindow, Window.revoked_of_waiting hheld]
    · rw [hwindow, Window.revoked_of_not_waiting hidle]
    · rw [State.window_post, if_pos rfl, window_closeSession, if_neg (ws_ne_client_window c)]
    · rw [State.window_post, if_neg hws, window_closeSession, if_neg hne]

end Sys2Proof.Machine
end

section
/-! Proofs on the teardown slice (R122 to R124): the items that a slice chooses, what taking records and cells one after
another comes to as a whole, and the slice that finds no item. -/

namespace Sys2Proof.Machine

variable {s t : State} {c : ClientNo}

/-! ### The items of a slice (R122) -/

theorem names_holding (s : State) (c : ClientNo) (k : SlotNo) : names c (s.holding k) = s.recordOf c k := by
  unfold names State.recordOf
  cases s.holding k <;> rfl

/-- The client's records, in slot order (R122). -/
def State.clientRecords (s : State) (c : ClientNo) : List SlotNo := collect (fun _ x => names c x) s.holdings

/-- The client's PRIVATE cells, in index order (R122). -/
def State.clientCells (s : State) (c : ClientNo) : List CellNo := collect (fun _ x => x.ownedBy c) s.cells

theorem State.sliceRecords_eq (s : State) (c : ClientNo) : s.sliceRecords c = (s.clientRecords c).take 16 := rfl

theorem State.sliceCells_eq (s : State) (c : ClientNo) :
    s.sliceCells c = (s.clientCells c).take (16 - (s.sliceRecords c).length) := rfl

theorem State.mem_clientRecords {k : SlotNo} : k ∈ s.clientRecords c ↔ s.recordOf c k = true :=
  mem_collect.trans (by rw [← names_holding]; rfl)

theorem State.mem_clientCells {n : CellNo} : n ∈ s.clientCells c ↔ s.cellOwnedBy c n = true := mem_collect

theorem State.clientRecords_sorted (s : State) (c : ClientNo) : (s.clientRecords c).Pairwise (· < ·) := collect_sorted _ _

theorem State.clientCells_sorted (s : State) (c : ClientNo) : (s.clientCells c).Pairwise (· < ·) := collect_sorted _ _

/-- The client's records that meet a condition, counted over the slots. -/
theorem State.clientRecords_filter_length (q : SlotNo → Bool) :
    ((s.clientRecords c).filter q).length = (List.finRange 512).countP fun j => q j && s.recordOf c j := by
  simp only [← names_holding]
  exact collect_filter_length _ _ q

/-- The client's PRIVATE cells that meet a condition, counted over the cells. -/
theorem State.clientCells_filter_length (q : CellNo → Bool) :
    ((s.clientCells c).filter q).length = (List.finRange 1024).countP fun j => q j && s.cellOwnedBy c j :=
  collect_filter_length _ _ q

theorem State.clientRecords_length : (s.clientRecords c).length = (List.finRange 512).countP (s.recordOf c) := by
  simpa using State.clientRecords_filter_length (s := s) (c := c) fun _ => true

/-- The first 16 items: 16 of an ascending list are those with fewer than 16 below them, and the cells have what the records
leave over of the 16. -/
theorem sliceChooses (s : State) (c : ClientNo) : SliceChooses s c where
  records k := by
    rw [State.sliceRecords_eq, mem_take_of_ascending (s.clientRecords_sorted c), State.mem_clientRecords,
      State.clientRecords_filter_length]
  cells n := by
    rw [State.sliceCells_eq, mem_take_of_ascending (s.clientCells_sorted c), State.mem_clientCells,
      State.clientCells_filter_length, State.sliceRecords_eq, List.length_take, State.clientRecords_length]
    refine and_congr_right fun _ => ?_
    omega
  recordOrder := (s.clientRecords_sorted c).sublist (List.take_sublist _ _)
  cellOrder := (s.clientCells_sorted c).sublist (List.take_sublist _ _)

theorem State.sliceRecords_nodup (s : State) (c : ClientNo) : (s.sliceRecords c).Nodup :=
  (sliceChooses s c).recordOrder.imp ne_of_lt

/-- Every slot that a slice takes holds a record. -/
theorem State.holding_of_sliceRecords {k : SlotNo} (hk : k ∈ s.sliceRecords c) : s.holding k ≠ none := by
  have hrecord : s.recordOf c k = true := ((sliceChooses s c).records k |>.mp hk).1
  intro hnone
  rw [State.recordOf, hnone] at hrecord
  exact Bool.false_ne_true hrecord

/-! ### Records and cells taken one after another (R123) -/

/-- A falling charge is judged once, by where it ends: two falls make the recount of the whole (R68). -/
theorem Session.recount_recount (x : Session) {owned held owned' held' : Nat} (h : owned + held ≤ x.owned + x.held)
    (h' : owned' + held' ≤ owned + held) : (x.recount owned held).recount owned' held' = x.recount owned' held' := by
  unfold Session.recount
  congr 1
  simp only [Nat.not_lt.mpr h, Nat.not_lt.mpr h', Nat.not_lt.mpr (h'.trans h), if_false]
  rcases h.lt_or_eq with hfall | hsame
  · rcases h'.lt_or_eq with hfall' | hsame'
    · have hlow : owned + held < x.warning → owned' + held' < x.warning := hfall'.trans
      rw [if_pos hfall, if_pos hfall', if_pos (hfall'.trans hfall)]
      grind
    · simp [hsame', hfall]
  · simp [hsame]

/-- A recount to the counts as they stand changes nothing. -/
theorem Session.recount_self (x : Session) : x.recount x.owned x.held = x := by
  simp [Session.recount]

/-- A charge that does not rise changes no window (R67). -/
theorem State.setCounts_windows_of_le {owned held : Nat}
    (h : owned + held ≤ (s.session c).owned + (s.session c).held) : (s.setCounts c owned held).windows = s.windows :=
  State.windows_ext s fun w => by
    rw [State.window_setCounts, Session.warnEvent_of_le h]
    split <;> simp

theorem KeepsRest.trans {u : State} (h : KeepsRest s t) (h' : KeepsRest t u) : KeepsRest s u :=
  ⟨h'.maps.trans h.maps, h'.budget.trans h.budget, h'.cooling.trans h.cooling, h'.lastServed.trans h.lastServed,
    h'.sliceTurn.trans h.sliceTurn, h'.teardownBusy.trans h.teardownBusy, h'.teardownClient.trans h.teardownClient,
    h'.supMaster.trans h.supMaster, h'.fault.trans h.fault, h'.more.trans h.more, h'.cursor.trans h.cursor,
    h'.scanResult.trans h.scanResult, h'.blank.trans h.blank, h'.resetHeld.trans h.resetHeld,
    h'.readData.trans h.readData, h'.pending.trans h.pending⟩

/-- From `s` to `t` the client's owned count falls by `a` and its held count by `b`, as far as 0, with no other session, no
window and nothing but the cells, the records and the queue changed beside (R64, R68). -/
structure CountsFall (s : State) (c : ClientNo) (a b : Nat) (t : State) : Prop where
  session : t.session c = (s.session c).recount ((s.session c).owned - a) ((s.session c).held - b)
  sessions : KeepsOtherSessions s t c
  windows : t.windows = s.windows
  rest : KeepsRest s t

theorem countsFall_zero (s : State) (c : ClientNo) : CountsFall s c 0 0 s where
  session := (Session.recount_self _).symm
  sessions _ _ := rfl
  windows := rfl
  rest := by constructor <;> rfl

theorem CountsFall.inOpenBatch {a b : Nat} (h : CountsFall s c a b t) : t.inOpenBatch = s.inOpenBatch :=
  State.inOpenBatch_congr fun d => by
    by_cases hd : d = c
    · rw [hd, h.session]
      rfl
    · rw [h.sessions d hd]

/-- A further fall of the counts, over a state `u` that differs from `t` in its cells, records and queue. -/
theorem CountsFall.setCounts {a b : Nat} {u : State} (h : CountsFall s c a b t) (hs : u.sessions = t.sessions)
    (hw : u.windows = t.windows) (hu : KeepsRest t u) (a' b' : Nat) :
    CountsFall s c (a + a') (b + b') (u.setCounts c ((t.session c).owned - a') ((t.session c).held - b')) := by
  have hsession (d : ClientNo) : u.session d = t.session d := by rw [State.session, hs]; rfl
  have howned : (t.session c).owned = (s.session c).owned - a := by rw [h.session]; rfl
  have hheld : (t.session c).held = (s.session c).held - b := by rw [h.session]; rfl
  refine { session := ?session, sessions := fun d hd => ?sessions, windows := ?windows, rest := ?rest }
  case session =>
    rw [State.session_setCounts, if_pos rfl, hsession, howned, hheld, h.session,
      Session.recount_recount _ (by omega) (by omega), Nat.sub_sub, Nat.sub_sub]
  case sessions => rw [State.session_setCounts, if_neg hd, hsession, h.sessions d hd]
  case windows => rw [State.setCounts_windows_of_le (by rw [hsession]; omega), hw, h.windows]
  case rest => exact h.rest.trans (hu.trans (by constructor <;> simp))

/-- Cells that are released one group after another leave the queue as the release of them all does (R11). -/
theorem State.detached_detached {p : CellNo → Bool} (hq : t.queue = s.detached p) (ho : t.inOpenBatch = s.inOpenBatch)
    (q : CellNo → Bool) : t.detached q = s.detached fun n => p n || q n := by
  unfold State.detached at hq ⊢
  rw [hq, ho, List.map_map]
  refine List.map_congr_left fun e _ => ?_
  have hsingle : s.inOpenBatch ⟨e.cell, none⟩ = false := rfl
  cases hp : p e.cell <;> cases hb : s.inOpenBatch e <;> simp [hp, hb, hsingle]

theorem State.detached_false (s : State) : (s.detached fun _ => false) = s.queue := by
  simp [State.detached]

theorem State.detached_setHolding (k : SlotNo) (x : Option Holding) (p : CellNo → Bool) :
    (s.setHolding k x).detached p = s.detached p := rfl

/-- The references that the record in a slot counts on a cell (R62). -/
def State.countAt (s : State) (n : CellNo) (k : SlotNo) : Nat :=
  match s.holding k with
  | none => 0
  | some r => if r.cell = n then r.count else 0

/-- The record in a slot names a cell. -/
def State.namesAt (s : State) (n : CellNo) (k : SlotNo) : Bool :=
  match s.holding k with
  | none => false
  | some r => r.cell == n

theorem State.countAt_of_holding {k : SlotNo} {r : Holding} (h : s.holding k = some r) (n : CellNo) :
    s.countAt n k = if r.cell = n then r.count else 0 := by
  rw [State.countAt, h]

theorem State.namesAt_of_holding {k : SlotNo} {r : Holding} (h : s.holding k = some r) (n : CellNo) :
    s.namesAt n k = (r.cell == n) := by
  rw [State.namesAt, h]

theorem State.countAt_of_not_named {n : CellNo} {k : SlotNo} (h : s.namesAt n k = false) : s.countAt n k = 0 := by
  unfold State.namesAt at h
  unfold State.countAt
  split <;> simp_all

/-- The references that the records in some slots count on a cell. -/
def State.countOver (s : State) (ks : List SlotNo) (n : CellNo) : Nat := (ks.map (s.countAt n)).sum

/-- A cell is released where the records in `ks` are removed and the cells `ns` given back: it is one of `ns`, or the records
name it and count every reference to it (R123). -/
def State.releasedBy (s : State) (ks : List SlotNo) (ns : List CellNo) (n : CellNo) : Bool :=
  ns.contains n || (ks.any (s.namesAt n) && decide (s.references n ≤ s.countOver ks n))

theorem State.sliceNames_eq (s : State) (c : ClientNo) (n : CellNo) :
    s.sliceNames c n = (s.sliceRecords c).any (s.namesAt n) := rfl

theorem State.sliceCountOn_eq (s : State) (c : ClientNo) (n : CellNo) :
    s.sliceCountOn c n = s.countOver (s.sliceRecords c) n := rfl

theorem State.sliceReleases_eq (s : State) (c : ClientNo) :
    s.sliceReleases c = s.releasedBy (s.sliceRecords c) (s.sliceCells c) := rfl

theorem State.countOver_concat (s : State) (ks : List SlotNo) (k : SlotNo) (n : CellNo) :
    s.countOver (ks ++ [k]) n = s.countOver ks n + s.countAt n k := by
  simp [State.countOver]

theorem State.countOver_of_not_named {ks : List SlotNo} {n : CellNo} (h : ks.any (s.namesAt n) = false) :
    s.countOver ks n = 0 := by
  rw [List.any_eq_false] at h
  refine List.sum_eq_zero fun x hx => ?_
  obtain ⟨k, hk, rfl⟩ := List.mem_map.mp hx
  exact State.countAt_of_not_named (by simpa using h k hk)

/-- `t` is `s` after the client's records in the slots `ks` were removed and its cells `ns` given back (R123). -/
structure TakesItems (s : State) (c : ClientNo) (ks : List SlotNo) (ns : List CellNo) (t : State) : Prop where
  holding : ∀ k, t.holding k = if k ∈ ks then none else s.holding k
  cell : ∀ n, t.cell n =
    if s.releasedBy ks ns n then (s.cell n).become (releasedState s.cooling)
    else if ks.any (s.namesAt n) then (s.cell n).become (.shared (s.references n - s.countOver ks n))
    else s.cell n
  queue : t.queue = s.detached (s.releasedBy ks ns)
  counts : CountsFall s c ns.length ks.length t

theorem takesItems_nil (s : State) (c : ClientNo) : TakesItems s c [] [] s where
  holding _ := rfl
  cell _ := rfl
  queue := s.detached_false.symm
  counts := countsFall_zero s c

theorem references_releasedState (setting : Nat) : (releasedState setting).referencesField = 0 := by
  unfold releasedState
  split <;> rfl

/-- A cell keeps its two values, whatever is taken. -/
theorem TakesItems.become {ks : List SlotNo} {ns : List CellNo} (h : TakesItems s c ks ns t) (n : CellNo) (y : CellState) :
    (t.cell n).become y = (s.cell n).become y := by
  rw [h.cell]
  split
  · rfl
  · split <;> rfl

/-- What removed records leave of the references to a cell. -/
theorem TakesItems.references {ks : List SlotNo} (h : TakesItems s c ks [] t) (n : CellNo) :
    t.references n = s.references n - s.countOver ks n := by
  change (t.cell n).state.referencesField = _
  rw [h.cell]
  by_cases hnamed : ks.any (s.namesAt n) = true
  · by_cases hall : s.references n ≤ s.countOver ks n
    · rw [if_pos (by simp only [State.releasedBy, hnamed, hall, decide_true, Bool.and_self, Bool.or_true]),
        Nat.sub_eq_zero_of_le hall]
      exact references_releasedState s.cooling
    · rw [if_neg (by simp [State.releasedBy, hall]), if_pos hnamed]
      rfl
  · rw [if_neg (by simp only [State.releasedBy, hnamed, Bool.false_and, List.contains_nil, Bool.or_false,
      not_false_eq_true, Bool.false_eq_true]), if_neg hnamed, State.countOver_of_not_named (by simpa using hnamed)]
    rfl

theorem State.any_namesAt_concat {k : SlotNo} {r : Holding} (hr : s.holding k = some r) (ks : List SlotNo) (n : CellNo) :
    (ks ++ [k]).any (s.namesAt n) = (ks.any (s.namesAt n) || r.cell == n) := by
  simp [State.namesAt_of_holding hr]

/-- One record more decides its own cell alone: the cell is released where the record counts every reference left. -/
theorem State.releasedBy_concat {k : SlotNo} {r : Holding} (hr : s.holding k = some r) (ks : List SlotNo) (n : CellNo) :
    s.releasedBy (ks ++ [k]) [] n =
      if n = r.cell then decide (s.references n - s.countOver ks n ≤ r.count) else s.releasedBy ks [] n := by
  unfold State.releasedBy
  rw [State.any_namesAt_concat hr, State.countOver_concat, State.countAt_of_holding hr]
  by_cases hn : n = r.cell
  · simp [hn, Nat.add_comm]
  · simp [hn, Ne.symm hn, beq_false_of_ne (Ne.symm hn)]

theorem State.releasedBy_eq_false {ks : List SlotNo} {n : CellNo} (h : s.countOver ks n < s.references n) :
    s.releasedBy ks [] n = false := by
  simp [State.releasedBy, h]

/-- The next record taken (R123). -/
theorem TakesItems.removeRecord {ks : List SlotNo} {k : SlotNo} (h : TakesItems s c ks [] t) (hk : k ∉ ks)
    {r : Holding} (hr : s.holding k = some r) : TakesItems s c (ks ++ [k]) [] (t.removeRecord c k) := by
  have hslot : t.holding k = some r := by rw [h.holding, if_neg hk, hr]
  have heq := t.removeRecord_eq (c := c) hslot
  have hrefs : (t.setHolding k none).references r.cell = s.references r.cell - s.countOver ks r.cell := h.references r.cell
  refine { holding := fun j => ?holding, cell := fun n => ?cell, queue := ?queue, counts := ?counts }
  case holding =>
    rw [State.holding_removeRecord, h.holding]
    by_cases hj : j = k <;> simp [hj]
  case cell =>
    rw [heq, State.cell_setCounts, State.cell_dropReferences, State.releasedBy_concat hr, hrefs, State.cell_setHolding,
      State.cell_setHolding]
    by_cases hn : n = r.cell
    · subst hn
      rw [if_pos rfl, if_pos rfl, h.become, State.any_namesAt_concat hr, State.countOver_concat,
        State.countAt_of_holding hr, if_pos rfl, Nat.sub_sub, State.setHolding_cooling, h.counts.rest.cooling]
      split <;> simp_all
    · rw [if_neg hn, if_neg hn, h.cell, State.any_namesAt_concat hr, State.countOver_concat,
        State.countAt_of_holding hr, if_neg (Ne.symm hn), beq_false_of_ne (Ne.symm hn), Bool.or_false, Nat.add_zero]
  case queue =>
    rw [heq, State.setCounts_queue, State.dropReferences_queue, hrefs, funext (State.releasedBy_concat hr ks)]
    split
    next hlast =>
      rw [State.detached_setHolding, State.detached_detached h.queue h.counts.inOpenBatch]
      refine congrArg s.detached (funext fun n => ?_)
      by_cases hn : n = r.cell
      · simp [hn, hlast]
      · simp [hn]
    next hleft =>
      rw [State.setHolding_queue, h.queue]
      refine congrArg s.detached (funext fun n => ?_)
      by_cases hn : n = r.cell
      · simp [hn, hleft, State.releasedBy_eq_false (s := s) (ks := ks) (n := r.cell) (by omega)]
      · simp [hn]
  case counts =>
    rw [heq, List.length_append]
    exact h.counts.setCounts (by simp) (by simp) (by constructor <;> simp) 0 1

/-- The next cell taken (R123). -/
theorem TakesItems.giveBackCell {ks : List SlotNo} {ns : List CellNo} (h : TakesItems s c ks ns t) (n : CellNo) :
    TakesItems s c ks (ns ++ [n]) (t.giveBackCell c n) := by
  have hrel (j : CellNo) : s.releasedBy ks (ns ++ [n]) j = (s.releasedBy ks ns j || j == n) := by
    simp [State.releasedBy, Bool.or_right_comm, Bool.beq_eq_decide_eq]
  refine { holding := fun j => ?holding, cell := fun j => ?cell, queue := ?queue, counts := ?counts }
  case holding => rw [State.holding_giveBackCell, h.holding]
  case cell =>
    rw [State.cell_giveBackCell, hrel, h.counts.rest.cooling, h.become]
    by_cases hj : j = n
    · simp [hj]
    · simp [hj, h.cell]
  case queue =>
    rw [State.giveBackCell_queue, State.detached_detached h.queue h.counts.inOpenBatch]
    exact congrArg s.detached (funext fun j => (hrel j).symm)
  case counts =>
    rw [List.length_append]
    exact h.counts.setCounts (u := t.release (· == n)) (by simp) (by simp) (by constructor <;> simp) 1 0

/-- The records removed one after another. -/
theorem takesItems_records (s : State) (c : ClientNo) (ks : List SlotNo) (hnodup : ks.Nodup)
    (hsome : ∀ k ∈ ks, s.holding k ≠ none) :
    TakesItems s c ks [] (ks.foldl (fun t k => t.removeRecord c k) s) := by
  induction ks using List.reverseRecOn with
  | nil => exact takesItems_nil s c
  | append_singleton ks k ih =>
    obtain ⟨hks, -, hdisjoint⟩ := List.nodup_append.mp hnodup
    obtain ⟨r, hr⟩ := Option.ne_none_iff_exists'.mp (hsome k (by simp))
    rw [List.foldl_concat]
    exact (ih hks fun j hj => hsome j (by simp [hj])).removeRecord (fun hk => hdisjoint k hk k (by simp) rfl) hr

/-- The cells given back one after another. -/
theorem TakesItems.cells {ks : List SlotNo} (h : TakesItems s c ks [] t) (ns : List CellNo) :
    TakesItems s c ks ns (ns.foldl (fun t n => t.giveBackCell c n) t) := by
  induction ns using List.reverseRecOn with
  | nil => exact h
  | append_singleton ns n ih =>
    rw [List.foldl_concat]
    exact ih.giveBackCell n

/-- A slice takes the records and the cells that it chooses (R122, R123). -/
theorem takesItems_takeItems (s : State) (c : ClientNo) :
    TakesItems s c (s.sliceRecords c) (s.sliceCells c) (takeItems c s) :=
  (takesItems_records s c _ (s.sliceRecords_nodup c) fun _ => State.holding_of_sliceRecords).cells _

/-- A slice that finds an item takes items (R122). -/
theorem slice_of_items (h : s.sliceRecords c ≠ [] ∨ s.sliceCells c ≠ []) : slice c s = takeItems c s := by
  unfold slice
  rw [if_neg]
  simpa [or_iff_not_imp_left] using h

/-- Settles O39: the choice of the items, and their effects, which the one-by-one order of `takeItems` does not touch. -/
theorem sliceTakesItems : Obligations.SliceTakesItems := by
  intro s c hr hitems
  have h := takesItems_takeItems s c
  refine ⟨sliceChooses s c, _, execTeardownSlice_of_runs hr, ?_⟩
  rw [slice_of_items hitems]
  refine ⟨h.holding, fun n => ?cell, ?queue, h.counts.session, h.counts.sessions, h.counts.windows, rfl,
    h.counts.rest.trans (by constructor <;> rfl)⟩
  case cell =>
    rw [State.sliceReleases_eq, State.sliceNames_eq, State.sliceCountOn_eq]
    exact h.cell n
  case queue =>
    rw [State.sliceReleases_eq]
    exact h.queue

/-! ### The slice that finds no item (R124) -/

theorem State.sliceRecords_eq_nil (h : ∀ k r, s.holding k = some r → r.client ≠ c) : s.sliceRecords c = [] := by
  refine List.eq_nil_iff_forall_not_mem.mpr fun k hk => ?_
  obtain ⟨r, hr⟩ := Option.ne_none_iff_exists'.mp (State.holding_of_sliceRecords hk)
  have hrecord : s.recordOf c k = true := ((sliceChooses s c).records k |>.mp hk).1
  rw [State.recordOf, hr] at hrecord
  exact h k r hr (by simpa using hrecord)

theorem State.sliceCells_eq_nil (h : ∀ n, (s.cell n).state ≠ .owned c) : s.sliceCells c = [] :=
  List.eq_nil_iff_forall_not_mem.mpr fun n hn => h n (of_decide_eq_true ((sliceChooses s c).cells n |>.mp hn).1)

/-- A slice that finds no item ends the teardown (R122). -/
theorem slice_of_no_item (hrecords : s.sliceRecords c = []) (hcells : s.sliceCells c = []) :
    slice c s = endTeardown c s := by
  simp [slice, hrecords, hcells]

/-- Settles O40: the slice is `endTeardown`. -/
theorem sliceEndsTeardown : Obligations.SliceEndsTeardown := by
  intro s c hr hrecords hcells
  refine ⟨_, execTeardownSlice_of_runs hr, ?_⟩
  rw [slice_of_no_item (State.sliceRecords_eq_nil hrecords) (State.sliceCells_eq_nil hcells)]
  exact ⟨s.session_setSession_self c _, fun d hd => s.session_setSession_ne c _ d hd,
    State.window_raise_self _ .ws .closeDone, fun w hw => State.window_raise_ne _ .ws .closeDone w hw, rfl⟩

end Sys2Proof.Machine
end

section
/-! Proofs on the supervisor's commands on cells and maps (R131 to R135) and on its writes to FAULT (R130): the completions of
FIX, UNFIX and MAP_RESET, and what a write to FAULT leaves before and after a report. -/

namespace Sys2Proof.Machine

variable {s : State} {h : Held} {n : CellNo} {m : MapNo}

/-! ### FIX (R131, R132) -/

/-- The completion of a FIX in progress (R105, R106). -/
theorem exec_fix_of_runs (hr : RunsSupervisor s h) (hcmd : h.command = .fix) :
    exec .fix s = .next ((fix h s).1.post .ws .fix (fix h s).2) :=
  congrArg Host.Outcome.next (State.completeSupervisor_of_command hr hcmd fix)

theorem fix_of_bad_argument (hbad : 1023 < h.arg0.toNat ∨ bits 31 30 h.arg1 ≠ 0) :
    fix h s = (s, .refusal .badArgument) := by
  unfold fix
  obtain hcell | hvalue := hbad
  · rw [cellArg_eq_none.mpr hcell]
  · rw [colourArg_eq_none.mpr hvalue]
    cases cellArg h.arg0 <;> rfl

/-- A cell that belongs to a client or is COOLING cannot be fixed (R131). -/
theorem fix_of_wrong_state {v : Colour} (hn : h.arg0.toNat = n.val) (hv : colourArg h.arg1 = some v)
    (hfree : (s.cell n).state ≠ .free) (hfixed : (s.cell n).state ≠ .fixed) :
    fix h s = (s, .refusal .wrongState) := by
  simp only [fix, cellArg_eq_some.mpr hn, hv]
  cases hx : (s.cell n).state with
  | free => exact absurd hx hfree
  | fixed => exact absurd hx hfixed
  | owned _ | shared _ | cooling _ => rfl

/-- A placement finds no position where it needs one and the queue is full (R131). -/
theorem State.noPosition_eq_true :
    s.noPosition n = true ↔
      (s.map (mapOf n)).mode = .deferred ∧ s.queued n = false ∧ Config.queueCapacity ≤ s.queue.length := by
  simp only [State.noPosition, Bool.and_eq_true, decide_eq_true_eq, Bool.not_eq_true', and_assoc]

/-- The state after a FIX whose checks pass: the cell FIXED, and its value set as a single (R132). -/
def State.fixCell (n : CellNo) (v : Colour) (s : State) : State :=
  (s.setCell n ((s.cell n).become .fixed)).setValue n v none

/-- FIX of a FREE or FIXED cell is decided by whether the queue has a position for it (R131, R132). -/
theorem fix_of_allowed {v : Colour} (hn : h.arg0.toNat = n.val) (hv : colourArg h.arg1 = some v)
    (hs : (s.cell n).state = .free ∨ (s.cell n).state = .fixed) :
    fix h s =
      if s.noPosition n then (s, .refusal .queueFull)
      else (s.fixCell n v, .ok (field 9 0 n.val) (flag 0 ((s.fixCell n v).queued n))) := by
  simp only [fix, cellArg_eq_some.mpr hn, hv]
  obtain hs | hs := hs <;> rw [hs] <;> rfl

theorem State.cell_fixCell (s : State) (n : CellNo) (v : Colour) (j : CellNo) :
    (s.fixCell n v).cell j = if j = n then ((s.cell n).given (s.map (mapOf n)).mode v).become .fixed else s.cell j := by
  rw [State.fixCell, State.cell_setValue, State.cell_setCell_self]
  split
  next => rfl
  next hne => rw [State.cell_setCell_ne _ _ _ _ hne]

theorem State.fixCell_queue (s : State) (n : CellNo) (v : Colour) : (s.fixCell n v).queue = s.queueAfter n none :=
  State.setValue_queue _ n v none

/-- A FIX signals to WS alone, and QUEUE_HIGH alone (R93). -/
theorem State.window_fixCell (s : State) (n : CellNo) (v : Colour) (w : WindowNo) :
    (s.fixCell n v).window w = if w = .ws then (s.window w).signalled (s.highEvent n) else s.window w :=
  State.setValue_window _ n v none w

theorem State.keepsRest_fixCell (s : State) (n : CellNo) (v : Colour) : KeepsRest s (s.fixCell n v) := by
  constructor <;> simp [State.fixCell]

/-- Settles O41: the refusals in the check order of R131, and `fixCell` with its queued field posted. -/
theorem fixPlaces : Obligations.FixPlaces := by
  intro s h hr hcmd
  refine ⟨_, exec_fix_of_runs hr hcmd, fun hbad => ?argument, fun n v hn hv => ⟨fun hfree hfixed => ?state, fun hs =>
    ⟨fun hmode hqueued hfull => ?full, fun hroom => ?places⟩⟩⟩
  case argument =>
    rw [fix_of_bad_argument hbad]
    exact s.refuses_post .ws .fix .badArgument
  case state =>
    rw [fix_of_wrong_state hn hv hfree hfixed]
    exact s.refuses_post .ws .fix .wrongState
  case full =>
    rw [fix_of_allowed hn hv hs, if_pos (State.noPosition_eq_true.mpr ⟨hmode, hqueued, hfull⟩)]
    exact s.refuses_post .ws .fix .queueFull
  case places =>
    rw [fix_of_allowed hn hv hs, if_neg (Bool.eq_false_iff.mp (State.noPosition_eq_false.mpr hroom))]
    refine ⟨State.posts_post ?_ (fun w hne => ?_) _ _, ?_, fun j hne => ?_, ?_, ?_, ?_,
      (s.keepsRest_fixCell n v).post _ _ _⟩
    · rw [State.window_fixCell, if_pos rfl]
    · rw [State.window_fixCell, if_neg hne]
    · rw [State.cell_post, State.cell_fixCell, if_pos rfl]
    · rw [State.cell_post, State.cell_fixCell, if_neg hne]
    · rw [State.post_queue, State.fixCell_queue]
    · rw [State.post_holdings, State.fixCell, State.setValue_holdings, State.setCell_holdings]
    · rw [State.post_sessions, State.fixCell, State.setValue_sessions, State.setCell_sessions]

/-! ### UNFIX (R133) -/

/-- The completion of an UNFIX in progress (R105, R106). -/
theorem exec_unfix_of_runs (hr : RunsSupervisor s h) (hcmd : h.command = .unfix) :
    exec .unfix s = .next ((unfix h s).1.post .ws .unfix (unfix h s).2) :=
  congrArg Host.Outcome.next (State.completeSupervisor_of_command hr hcmd unfix)

theorem unfix_of_no_cell (hn : 1023 < h.arg0.toNat) : unfix h s = (s, .refusal .badArgument) := by
  rw [unfix, cellArg_eq_none.mpr hn]

theorem unfix_of_not_fixed (hn : h.arg0.toNat = n.val) (hs : (s.cell n).state ≠ .fixed) :
    unfix h s = (s, .refusal .wrongState) := by
  simp only [unfix, cellArg_eq_some.mpr hn]
  cases hx : (s.cell n).state with
  | fixed => exact absurd hx hs
  | free | owned _ | shared _ | cooling _ => rfl

/-- The state code of a released cell: COOLING, or FREE under a cooling setting of 0 (R11, R155). -/
theorem code_releasedState (setting : Nat) : (releasedState setting).code = if setting = 0 then 0 else 4 := by
  unfold releasedState
  split <;> rfl

theorem unfix_of_fixed (hn : h.arg0.toNat = n.val) (hs : (s.cell n).state = .fixed) :
    unfix h s = (s.release (· == n), .ok (field 9 0 n.val) (field 2 0 (if s.cooling = 0 then 0 else 4))) := by
  simp only [unfix, cellArg_eq_some.mpr hn, hs, code_releasedState]

/-- Settles O42: the refusals in the check order of R133, and the release of the one cell. -/
theorem unfixReleases : Obligations.UnfixReleases := by
  intro s h hr hcmd
  refine ⟨_, exec_unfix_of_runs hr hcmd, fun hn => ?argument, fun n hn => ⟨fun hs => ?state, fun hs => ?releases⟩⟩
  case argument =>
    rw [unfix_of_no_cell hn]
    exact s.refuses_post .ws .unfix .badArgument
  case state =>
    rw [unfix_of_not_fixed hn hs]
    exact s.refuses_post .ws .unfix .wrongState
  case releases =>
    rw [unfix_of_fixed hn hs]
    refine ⟨State.posts_post (by simp) (fun w _ => State.window_release s _ w) _ _, ?_, fun j hne => ?_, ?_, ?_, ?_,
      KeepsRest.post (by constructor <;> rfl) _ _ _⟩
    · rw [State.cell_post, State.cell_release, if_pos (beq_self_eq_true n)]
      rfl
    · rw [State.cell_post, State.cell_release, if_neg (by simpa using hne)]
    · rw [State.post_queue, State.release_queue]
    · rw [State.post_holdings, State.release_holdings]
    · rw [State.post_sessions, State.release_sessions]

/-! ### MAP_RESET (R134, R135) -/

/-- The completion of a MAP_RESET in progress (R105, R106). -/
theorem exec_mapReset_of_runs (hr : RunsSupervisor s h) (hcmd : h.command = .mapReset) :
    exec .mapReset s = .next ((mapReset h s).1.post .ws .mapReset (mapReset h s).2) :=
  congrArg Host.Outcome.next (State.completeSupervisor_of_command hr hcmd mapReset)

theorem mapReset_of_no_map (hm : 3 < h.arg0.toNat) : mapReset h s = (s, .refusal .badArgument) := by
  rw [mapReset, mapArg_eq_none.mpr hm]

theorem mapReset_of_map (hm : h.arg0.toNat = m.val) :
    mapReset h s = (resetMap m s, .ok (field 1 0 m.val) (field 7 0 (s.queue.countP fun e => mapOf e.cell == m))) := by
  rw [mapReset, mapArg_eq_some.mpr hm]

section ResetMap

variable (s : State) (m : MapNo)

theorem resetMap_queue : (resetMap m s).queue = s.queue.filter fun e => mapOf e.cell != m := rfl

theorem cell_resetMap (n : CellNo) :
    (resetMap m s).cell n = if mapOf n = m then (s.cell n).mapReset (s.queued n) else s.cell n := by
  simp [resetMap, State.cell]

theorem holding_resetMap (k : SlotNo) : (resetMap m s).holding k = (s.holding k).filter fun r => !r.isOf m := by
  simp [resetMap, State.holding]

theorem session_resetMap (c : ClientNo) :
    (resetMap m s).session c =
      if (s.session c).state.map? = some m then (s.session c).mapReset else s.session c :=
  mapTable_get _ s.sessions c.val c.isLt

theorem window_resetMap (w : WindowNo) :
    (resetMap m s).window w = if s.boundTo m w then (s.window w).raise .mapLost else s.window w := by
  simp [resetMap, State.window]

theorem keepsRest_resetMap : KeepsRest s (resetMap m s) := by constructor <;> rfl

theorem State.boundTo_client (c : ClientNo) :
    s.boundTo m c.window = true ↔ (s.session c).state.map? = some m := by
  simp [State.boundTo]

theorem State.boundTo_ws : s.boundTo m .ws = false := rfl

/-- A reset map has no entry in the queue (R134). -/
theorem queued_resetMap {n : CellNo} (hn : mapOf n = m) : (resetMap m s).queued n = false := by
  rw [State.queued, resetMap_queue, List.any_eq_false]
  intro e he heq
  obtain ⟨-, hmap⟩ := List.mem_filter.mp he
  simp [beq_iff_eq.mp heq, hn] at hmap

end ResetMap

/-- A cell whose values differ only while it is queued has equal values after MAP_RESET (R134). -/
theorem Cell.mapReset_values {x : Cell} {queued : Bool} (h : x.working ≠ x.visible → queued = true) :
    (x.mapReset queued).working = (x.mapReset queued).visible := by
  cases queued with
  | true => rfl
  | false => exact by_contra fun hne => Bool.false_ne_true (h hne)

/-- Settles O43: the refusal, and `resetMap` with the number of entries removed, read table by table. -/
theorem mapResetClears : Obligations.MapResetClears := by
  intro s h hr hcmd
  refine ⟨_, exec_mapReset_of_runs hr hcmd, fun hm => ?argument, fun m hm => ?clears⟩
  case argument =>
    rw [mapReset_of_no_map hm]
    exact s.refuses_post .ws .mapReset .badArgument
  case clears =>
    rw [mapReset_of_map hm]
    refine ⟨?queue, fun n hn => ?cell, fun hq n hn => ⟨?unqueued, ?values⟩, fun n hn => ?otherCell,
      fun k r hk => ?record, fun k hk => ?empty, fun c hc => ⟨?session, ?window⟩,
      fun c hc => ⟨?otherSession, ?otherWindow⟩, ?ws, State.post_work .., (keepsRest_resetMap s m).post _ _ _⟩
    case queue => rw [State.post_queue, resetMap_queue]
    case cell =>
      rw [State.cell_post, cell_resetMap, if_pos hn]
      rfl
    case unqueued => rw [State.queued_congr (State.post_queue ..), queued_resetMap s m hn]
    case values =>
      rw [State.cell_post, cell_resetMap, if_pos hn]
      exact Cell.mapReset_values (hq.ahead n)
    case otherCell => rw [State.cell_post, cell_resetMap, if_neg hn]
    case record =>
      rw [State.holding_post, holding_resetMap, hk]
      by_cases hmap : mapOf r.cell = m <;> simp [Option.filter, Holding.isOf, hmap]
    case empty => rw [State.holding_post, holding_resetMap, hk, Option.filter_none]
    case session =>
      rw [State.session_post, session_resetMap, if_pos hc]
      rfl
    case window =>
      rw [State.window_post, if_neg (client_window_ne_ws c), window_resetMap, if_pos ((s.boundTo_client m c).mpr hc)]
      rfl
    case otherSession => rw [State.session_post, session_resetMap, if_neg hc]
    case otherWindow =>
      rw [State.window_post, if_neg (client_window_ne_ws c), window_resetMap, if_neg (hc ∘ (s.boundTo_client m c).mp)]
    case ws => rw [State.window_post, if_pos rfl, window_resetMap, if_neg (Bool.eq_false_iff.mp (s.boundTo_ws m))]

/-! ### Writes to FAULT (R130) -/

/-- A write to FAULT by the master of WS empties the record and MORE, whatever is written (R130). -/
theorem exec_faultWrite_of_master {b : MasterNo} (hpower : s.resetHeld = false) (hb : s.supMaster = b) (data : Word) :
    exec (.faultWrite b data) s = .next { s with fault := none, more := false } := by
  have hpermit : s.permitted .ws b = true := by rw [State.permitted_ws, hb, beq_self_eq_true]
  rw [exec_of_accessOf rfl, State.access_of_permitted hpower hpermit]
  rfl

theorem accessOf_deniedAccess {k : WindowField} {w : WindowNo} (hk : k.val = w.val) (b : MasterNo) (offset : Offset)
    (a : Access) : accessOf (.deniedAccess k b offset a) = some (w, b, offset, a) :=
  congrArg (Option.map fun w => (w, b, offset, a)) (windowAt_eq_some.mpr hk)

/-- An event that is set pending is pending (R108). -/
theorem Window.isIn_signalled (x : Window) (e : Event) : e.isIn (x.signalled e.bit).pending = true := by
  have habsorb : (x.pending ||| e.bit) &&& e.bit = e.bit := by
    ext j hj
    rw [BitVec.getElem_and, BitVec.getElem_or]
    cases e.bit[j] <;> simp
  rw [Event.isIn, Window.signalled, habsorb, beq_self_eq_true]

/-- Settles O55: a denied write is a denied access, reported as O58 states, and the two orders are the permitted write before
such a report and after it. -/
theorem faultWriteEmpties : Obligations.FaultWriteEmpties := by
  intro s b data hpower
  refine ⟨fun hb => exec_faultWrite_of_master hpower hb.symm data, fun hb => ?denied,
    fun k w x offset a hb hk hstranger => ⟨?writeFirst, ?denialFirst⟩⟩
  case denied =>
    obtain ⟨t, hexec, -, hempty, hfull, -⟩ :=
      denialIsReported s (.faultWrite b data) .ws b 0x9 (.write data) hpower rfl (State.isStranger_ws_iff.mpr hb.symm)
    exact ⟨t, hexec, hempty, hfull⟩
  case writeFirst =>
    obtain ⟨t, hexec, -, hempty, -⟩ := denialIsReported { s with fault := none, more := false } _ w x offset a hpower
      (accessOf_deniedAccess hk x offset a) hstranger
    exact ⟨t, hexec, hempty rfl⟩
  case denialFirst =>
    obtain ⟨t, hexec, ht, -⟩ :=
      denialIsReported s _ w x offset a hpower (accessOf_deniedAccess hk x offset a) hstranger
    have hpower' : t.resetHeld = false := (congrArg State.resetHeld ht).trans hpower
    have hmaster : t.supMaster = b := (congrArg State.supMaster ht).trans hb.symm
    have hws : t.window .ws = (s.window .ws).signalled Event.accessDenied.bit :=
      (congrArg (State.window · .ws) ht).trans (s.window_setWindow_self .ws _)
    refine ⟨t, _, hexec, exec_faultWrite_of_master hpower' hmaster data, rfl, rfl, ?_⟩
    change Event.isIn .accessDenied (t.window .ws).pending = true
    rw [hws]
    exact Window.isIn_signalled _ _

end Sys2Proof.Machine
end

section
/-! What each row can do, said once for all rows: the effects of the client commands and of the supervisor's commands with the
checks that they passed, and with them every change that a row can make of the state. -/

namespace Sys2Proof.Machine

variable {s t : State} {c : ClientNo} {m : MapNo} {h : Held} {n : CellNo} {k : SlotNo}

/-- The row that completes a command. -/
def rowOf : Command → Instr
  | .allocShared => .allocShared
  | .hold => .hold
  | .free => .free
  | .publish => .publish
  | .allocPrivate => .allocPrivate
  | .store => .store
  | .freeRun => .freeRun
  | .read => .read
  | .query => .query
  | .batchOpen => .batchOpen
  | .batchClose => .batchClose
  | .clientOpen => .clientOpen
  | .clientQuota => .clientQuota
  | .clientClose => .clientClose
  | .fix => .fix
  | .unfix => .unfix
  | .mapReset => .mapReset
  | .mapMode => .mapMode
  | .flush => .flush
  | .setCommit => .setCommit

/-! ### Client commands -/

/-- What a command of client `c`, bound to map `m`, can make of the state before its result is posted: nothing where it is
refused or only reports, and else its effect, with the checks that it passed. -/
inductive ClientEffect (s : State) (c : ClientNo) (m : MapNo) : Command → State → Prop where
  | keeps (cmd : Command) : ClientEffect s c m cmd s
  | addsReference {cmd : Command} {n : CellNo} {k : SlotNo} (hcmd : cmd = .allocShared ∨ cmd = .hold)
      (hshared : (s.cell n).isShared = true) (hfound : s.findHolding c n = some k)
      (hroom : s.recordCount k < Config.holdLimit) :
      ClientEffect s c m cmd ((s.setHolding k (some ⟨c, n, s.recordCount k + 1⟩)).addReference n)
  | makesRecord {cmd : Command} {n : CellNo} {k : SlotNo} (hcmd : cmd = .allocShared ∨ cmd = .hold) (hmap : mapOf n = m)
      (hshared : (s.cell n).isShared = true) (hnone : s.findHolding c n = none)
      (hquota : (s.session c).charge + 1 ≤ (s.session c).quota) (hslot : s.emptySlot = some k) :
      ClientEffect s c m cmd ((s.addReference n).placeRecord c n k)
  | makesShared {n : CellNo} {k : SlotNo} {v : Colour} (hmap : mapOf n = m) (hfree : (s.cell n).state = .free)
      (hvalue : ∀ j, mapOf j = m → (s.cell j).isShared = true → (s.cell j).working ≠ v)
      (hquota : (s.session c).charge + 1 ≤ (s.session c).quota) (hslot : s.emptySlot = some k)
      (hroom : s.noPosition n = false) :
      ClientEffect s c m .allocShared
        (((s.setCell n { s.cell n with state := .shared 1 }).setValue n v none).placeRecord c n k)
  | dropsRecord {n : CellNo} {k : SlotNo} (hshared : (s.cell n).isShared = true)
      (hfound : s.findHolding c n = some k) (hlast : s.recordCount k ≤ 1) : ClientEffect s c m .free (s.removeRecord c k)
  | dropsReference {n : CellNo} {k : SlotNo} (hshared : (s.cell n).isShared = true) (hfound : s.findHolding c n = some k)
      (hmore : 1 < s.recordCount k) :
      ClientEffect s c m .free ((s.setHolding k (some ⟨c, n, s.recordCount k - 1⟩)).dropReferences n 1)
  | givesBack {cmd : Command} {p : CellNo → Bool} {count : Nat} (hcmd : cmd = .free ∨ cmd = .freeRun)
      (howned : ∀ n, p n = true → (s.cell n).state = .owned c) (hcount : ∑ n, (p n).toNat = count) :
      ClientEffect s c m cmd (s.giveBack c p count)
  | makesPublic {n : CellNo} {k : SlotNo} (hmap : mapOf n = m) (howned : (s.cell n).state = .owned c)
      (hbatch : s.cellInOpenBatch n = false)
      (hvalue : ∀ j, mapOf j = m → (s.cell j).isShared = true → (s.cell j).working ≠ (s.cell n).working)
      (hslot : s.emptySlot = some k) : ClientEffect s c m .publish (makePublic c n k s)
  | takesRun {first count : Nat} (hquota : (s.session c).charge + count ≤ (s.session c).quota)
      (hinside : first + count ≤ 256) (hfree : ∀ n, inRun m first count n = true → (s.cell n).state = .free) :
      ClientEffect s c m .allocPrivate (takeRun c m first count s)
  | stores {n : CellNo} {v : Colour} (hmap : mapOf n = m) (howned : (s.cell n).state = .owned c)
      (hbatch : (s.map m).mode = .deferred → s.batchFull c n = false) (hroom : s.noPosition n = false) :
      ClientEffect s c m .store (s.setValue n v (s.openTag c))
  | opensBatch {serial : Nat} (hnone : (s.session c).openBatch = none) (hmode : (s.map m).mode = .deferred)
      (hserial : s.freeSerial c Config.serialLimit (s.session c).nextSerial = serial) :
      ClientEffect s c m .batchOpen
        (s.setSession c { s.session c with openBatch := some serial, nextSerial := serialAfter serial })
  | closesBatch : ClientEffect s c m .batchClose (s.setSession c { s.session c with openBatch := none })

theorem Session.exceedsQuota_eq_false {x : Session} {count : Nat} :
    x.exceedsQuota count = false ↔ x.charge + count ≤ x.quota := by
  simp [Session.exceedsQuota]

theorem coarseMatch_self (j : Nat) (v : Colour) : coarseMatch j v v = true := by
  simp [coarseMatch]

/-- A value matches itself at every coarseness, so that a search without a match leaves no cell of the value (R4, R22). -/
theorem State.ne_of_findMatch_eq_none {j : Nat} {v : Colour} (hnone : s.findMatch m j v = none) (n : CellNo)
    (hmap : mapOf n = m) (hshared : (s.cell n).isShared = true) : (s.cell n).working ≠ v := by
  rintro rfl
  have hcell := State.lowestIn_eq_none.mp hnone (indexOf n)
  rw [← hmap, cellOf_mapOf_indexOf, hshared, coarseMatch_self] at hcell
  exact Bool.noConfusion hcell

theorem takeReference_effect {cmd : Command} (hcmd : cmd = .allocShared ∨ cmd = .hold) (hmap : mapOf n = m)
    (hshared : (s.cell n).isShared = true) : ClientEffect s c m cmd (takeReference c n s).1 := by
  unfold takeReference
  dsimp only
  split
  next k hfound =>
    split
    next => exact .keeps cmd
    next hroom => exact .addsReference hcmd hshared hfound (Nat.lt_of_not_le hroom)
  next hnone =>
    split
    next => exact .keeps cmd
    next hquota =>
      split
      next => exact .keeps cmd
      next k hslot =>
        exact .makesRecord hcmd hmap hshared hnone (Session.exceedsQuota_eq_false.mp (by simpa using hquota)) hslot

theorem makeShared_effect {v : Colour} (hvalue : ∀ j, mapOf j = m → (s.cell j).isShared = true → (s.cell j).working ≠ v) :
    ClientEffect s c m .allocShared (makeShared c m v s).1 := by
  unfold makeShared
  split
  next => exact .keeps _
  next hquota =>
    split
    next => exact .keeps _
    next k hslot =>
      split
      next => exact .keeps _
      next n hfound =>
        obtain ⟨hmap, hfree⟩ := State.lowestIn_map hfound
        split
        next => exact .keeps _
        next hroom =>
          exact .makesShared hmap (Cell.isFree_iff.mp hfree) hvalue (Session.exceedsQuota_eq_false.mp (by simpa using hquota))
            hslot (by simpa using hroom)

theorem allocShared_effect : ClientEffect s c m .allocShared (allocShared c m h s).1 := by
  unfold allocShared
  split
  next => exact .keeps _
  next =>
    split
    next => exact .keeps _
    next =>
      split
      next => exact .keeps _
      next v hv =>
        split
        next n hfound =>
          obtain ⟨hmap, hmatch⟩ := State.lowestIn_map hfound
          exact takeReference_effect (.inl rfl) hmap (Bool.and_eq_true_iff.mp hmatch).1
        next hnone => exact makeShared_effect (State.ne_of_findMatch_eq_none hnone)

theorem hold_effect : ClientEffect s c m .hold (hold c m h s).1 := by
  unfold hold
  split
  next => exact .keeps _
  next =>
    split
    next => exact .keeps _
    next i hi =>
      split
      next hshared => exact takeReference_effect (.inr rfl) (mapOf_cellOf m i) hshared
      next => exact .keeps _

theorem dropOne_effect (hshared : (s.cell n).isShared = true) (hfound : s.findHolding c n = some k) :
    ClientEffect s c m .free (dropOne c n k s) := by
  unfold dropOne
  split
  next hlast => exact .dropsRecord hshared hfound hlast
  next hmore => exact .dropsReference hshared hfound (Nat.lt_of_not_le hmore)

theorem sum_toNat_beq (n : CellNo) : ∑ j : CellNo, (j == n).toNat = 1 := by
  simp only [Bool.toNat, Bool.cond_eq_ite, beq_iff_eq]
  exact Finset.sum_ite_eq_of_mem' _ n _ (Finset.mem_univ n)

theorem free_effect : ClientEffect s c m .free (free c m h s).1 := by
  unfold free
  split
  next => exact .keeps _
  next =>
    split
    next => exact .keeps _
    next i hi =>
      split
      next r hstate =>
        split
        next => exact .keeps _
        next k hfound => exact dropOne_effect (Cell.isShared_iff.mpr ⟨r, hstate⟩) hfound
      next owner hstate =>
        split
        next howner =>
          subst howner
          exact .givesBack (.inl rfl) (fun n hn => beq_iff_eq.mp hn ▸ hstate) (sum_toNat_beq _)
        next => exact .keeps _
      next => exact .keeps _
      next => exact .keeps _
      next => exact .keeps _

theorem publish_effect : ClientEffect s c m .publish (publish c m h s).1 := by
  unfold publish
  split
  next => exact .keeps _
  next =>
    split
    next => exact .keeps _
    next i hi =>
      split
      next owner hstate =>
        split
        next => exact .keeps _
        next howner =>
          split
          next => exact .keeps _
          next hbatch =>
            split
            next => exact .keeps _
            next hnone =>
              split
              next => exact .keeps _
              next k hslot =>
                refine .makesPublic (mapOf_cellOf m i) (by simpa [not_not.mp howner] using hstate) (by simpa using hbatch)
                  (fun j hmap hshared heq => ?_) hslot
                have hcell := State.lowestIn_eq_none.mp hnone (indexOf j)
                rw [← hmap, cellOf_mapOf_indexOf, hshared, hmap, heq, beq_self_eq_true] at hcell
                exact Bool.noConfusion hcell
      all_goals exact .keeps _

/-- The cells of a run inside a map are as many as its count (R41). -/
theorem sum_toNat_inRun {first count : Nat} (hinside : first + count ≤ 256) :
    ∑ n : CellNo, (inRun m first count n).toNat = count := by
  have hinj : ∀ i ∈ Finset.range count, ∀ j ∈ Finset.range count,
      (Fin.ofNat 1024 (m.val * 256 + first + i)) = Fin.ofNat 1024 (m.val * 256 + first + j) → i = j := by
    intro i hi j hj heq
    have := m.isLt
    simp only [Finset.mem_range, Fin.ext_iff, Fin.val_ofNat] at hi hj heq
    omega
  have himage : Finset.univ.filter (fun n => inRun m first count n = true) =
      (Finset.range count).image fun i => Fin.ofNat 1024 (m.val * 256 + first + i) := by
    ext n
    have := m.isLt
    simp only [Finset.mem_filter, Finset.mem_univ, true_and, inRun_eq_true, Finset.mem_image, Finset.mem_range, Fin.ext_iff,
      mapOf, indexOf, Fin.val_ofNat]
    constructor
    · rintro ⟨hm, hlo, hhi⟩
      exact ⟨n.val % 256 - first, by omega, by omega⟩
    · rintro ⟨i, hi, hn⟩
      omega
  calc ∑ n : CellNo, (inRun m first count n).toNat
      = (Finset.univ.filter fun n => inRun m first count n = true).card := by
        simp only [Finset.card_filter, Bool.toNat, Bool.cond_eq_ite]
    _ = count := by rw [himage, Finset.card_image_of_injOn hinj, Finset.card_range]

theorem allocPrivate_effect : ClientEffect s c m .allocPrivate (allocPrivate c m h s).1 := by
  unfold allocPrivate
  dsimp only
  split
  next => exact .keeps _
  next hargs =>
    split
    next => exact .keeps _
    next =>
      split
      next => exact .keeps _
      next hquota =>
        split
        next first hrun =>
          obtain ⟨⟨-, hinside, hfree⟩, -⟩ := (State.findRun_eq_some (by omega)).mp hrun
          refine .takesRun (Session.exceedsQuota_eq_false.mp (by simpa using hquota)) hinside fun n hn => ?_
          obtain ⟨rfl, hlo, hhi⟩ := inRun_eq_true.mp hn
          simpa using hfree (indexOf n) hlo hhi
        next =>
          split
          all_goals exact .keeps _

theorem store_effect : ClientEffect s c m .store (store c m h s).1 := by
  unfold store
  split
  next => exact .keeps _
  next =>
    split
    next => exact .keeps _
    next i hi =>
      split
      next owner hstate =>
        split
        next => exact .keeps _
        next howner =>
          split
          next => exact .keeps _
          next v hv =>
            split
            next => exact .keeps _
            next hbatch =>
              split
              next => exact .keeps _
              next hroom =>
                exact .stores (mapOf_cellOf m i) (by simpa [not_not.mp howner] using hstate) (by simpa using hbatch)
                  (by simpa using hroom)
      all_goals exact .keeps _

theorem freeRun_effect : ClientEffect s c m .freeRun (freeRun c m h s).1 := by
  unfold freeRun
  dsimp only
  split
  next => exact .keeps _
  next =>
    split
    next => exact .keeps _
    next hargs =>
      split
      next => exact .keeps _
      next hnone =>
        refine .givesBack (.inr rfl) (fun n hn => ?_) (sum_toNat_inRun (by omega))
        obtain ⟨rfl, hlo, hhi⟩ := inRun_eq_true.mp hn
        simpa using State.lowest_inRun_eq_none (q := fun x => !x.ownedBy c).mp hnone (indexOf n) hlo hhi

theorem read_effect : ClientEffect s c m .read (read c m h s).1 := by
  unfold read
  split
  all_goals exact .keeps _

theorem query_effect : ClientEffect s c m .query (query c m h s).1 := .keeps _

theorem openBatch_effect : ClientEffect s c m .batchOpen (openBatch c m h s).1 := by
  unfold openBatch
  split
  next => exact .keeps _
  next hnone =>
    split
    next => exact .keeps _
    next hmode =>
      refine .opensBatch (by simpa using hnone) ?_ rfl
      cases hx : (s.map m).mode with
      | deferred => rfl
      | direct => exact absurd hx hmode

theorem closeBatch_effect : ClientEffect s c m .batchClose (closeBatch c m h s).1 := by
  unfold closeBatch
  split
  next => exact .keeps _
  next => exact .closesBatch

/-! ### The supervisor's commands -/

/-- What a supervisor's command can make of the state before its result is posted. -/
inductive SupervisorEffect (s : State) : Command → State → Prop where
  | keeps (cmd : Command) : SupervisorEffect s cmd s
  | opens {c : ClientNo} {m : MapNo} {b : MasterNo} {quota warning : Nat} (hclosed : (s.session c).state = .closed)
      (hquota : quota ≤ Config.quotaLimit) (hwarning : warning ≤ Config.quotaLimit) :
      SupervisorEffect s .clientOpen
        ((s.setSession c (.opened m b quota warning)).setWindow c.window (s.window c.window).opened)
  | setsQuota {c : ClientNo} {quota warning : Nat} (hquota : quota ≤ Config.quotaLimit)
      (hwarning : warning ≤ Config.quotaLimit) (hcharge : (s.session c).charge ≤ quota) :
      SupervisorEffect s .clientQuota
        (s.setSession c
          { s.session c with quota := quota, warning := warning, armed := armedFor warning (s.session c).charge })
  | closes {c : ClientNo} {m : MapNo} {b : MasterNo} (hopen : (s.session c).state = .opened m b)
      (hbusy : s.teardownBusy = false) : SupervisorEffect s .clientClose (closeSession c m b s)
  | fixes {n : CellNo} {v : Colour} (hstate : (s.cell n).state = .free ∨ (s.cell n).state = .fixed)
      (hroom : s.noPosition n = false) : SupervisorEffect s .fix (s.fixCell n v)
  | unfixes {n : CellNo} (hstate : (s.cell n).state = .fixed) : SupervisorEffect s .unfix (s.release (· == n))
  | resetsMap (m : MapNo) : SupervisorEffect s .mapReset (resetMap m s)
  | drainsMap {m : MapNo} {frozen : Bool} (hmode : (s.map m).mode = .deferred) (hnone : s.mapHasOpenBatch m = false) :
      SupervisorEffect s .mapMode ((s.drain m).setMap m ⟨.direct, frozen⟩)
  | setsMap {m : MapNo} {mode : MapMode} {frozen : Bool} (hmode : (s.map m).mode = .deferred → mode = .deferred) :
      SupervisorEffect s .mapMode (s.setMap m ⟨mode, frozen⟩)
  | flushes (m : MapNo) : SupervisorEffect s .flush (endCooling m (s.drain m))
  | setsCommit {budget cooling : Nat} (hbudget : Config.budgetMin ≤ budget ∧ budget ≤ Config.budgetMax)
      (hcooling : cooling ≤ Config.coolingLimit) :
      SupervisorEffect s .setCommit { s with budget := budget, cooling := cooling }

theorem openClient_effect : SupervisorEffect s .clientOpen (openClient h s).1 := by
  unfold openClient
  split
  next => exact .keeps _
  next c hc =>
    split
    next => exact .keeps _
    next hclosed =>
      dsimp only
      split
      next m b hm hb =>
        split
        next => exact .keeps _
        next hlimits => exact .opens (not_not.mp hclosed) (by omega) (by omega)
      next => exact .keeps _

theorem setQuota_effect : SupervisorEffect s .clientQuota (setQuota h s).1 := by
  unfold setQuota
  split
  next => exact .keeps _
  next c hc =>
    dsimp only
    split
    next => exact .keeps _
    next =>
      split
      next => exact .keeps _
      next hlimits =>
        split
        next => exact .keeps _
        next hcharge => exact .setsQuota (by omega) (by omega) (Nat.le_of_not_lt hcharge)

theorem closeClient_effect : SupervisorEffect s .clientClose (closeClient h s).1 := by
  unfold closeClient
  split
  next => exact .keeps _
  next c hc =>
    split
    next m b hopen =>
      split
      next => exact .keeps _
      next hbusy => exact .closes hopen (by simpa using hbusy)
    all_goals exact .keeps _

theorem fix_effect : SupervisorEffect s .fix (fix h s).1 := by
  cases hn : cellArg h.arg0 with
  | none =>
    rw [fix_of_bad_argument (.inl (cellArg_eq_none.mp hn))]
    exact .keeps _
  | some n =>
    cases hv : colourArg h.arg1 with
    | none =>
      rw [fix_of_bad_argument (.inr (colourArg_eq_none.mp hv))]
      exact .keeps _
    | some v =>
      by_cases hstate : (s.cell n).state = .free ∨ (s.cell n).state = .fixed
      · rw [fix_of_allowed (cellArg_eq_some.mp hn) hv hstate]
        split
        next => exact .keeps _
        next hroom => exact .fixes hstate (by simpa using hroom)
      · obtain ⟨hfree, hfixed⟩ := not_or.mp hstate
        rw [fix_of_wrong_state (cellArg_eq_some.mp hn) hv hfree hfixed]
        exact .keeps _

theorem unfix_effect : SupervisorEffect s .unfix (unfix h s).1 := by
  unfold unfix
  split
  next => exact .keeps _
  next n hn =>
    split
    next hstate => exact .unfixes hstate
    all_goals exact .keeps _

theorem mapReset_effect : SupervisorEffect s .mapReset (mapReset h s).1 := by
  unfold mapReset
  split
  next => exact .keeps _
  next m hm => exact .resetsMap m

theorem mapMode_effect : SupervisorEffect s .mapMode (mapMode h s).1 := by
  unfold mapMode
  split
  next m mode frozen hm hmode hfrozen =>
    split
    next hchange =>
      obtain ⟨hdeferred, rfl⟩ := hchange
      split
      next => exact .keeps _
      next hnone => exact .drainsMap hdeferred (by simpa using hnone)
    next hsame =>
      refine .setsMap fun hdeferred => ?_
      cases mode with
      | deferred => rfl
      | direct => exact absurd ⟨hdeferred, rfl⟩ hsame
  next => exact .keeps _

theorem flush_effect : SupervisorEffect s .flush (flush h s).1 := by
  unfold flush
  split
  next => exact .keeps _
  next m hm => exact .flushes m

theorem setCommit_effect : SupervisorEffect s .setCommit (setCommit h s).1 := by
  unfold setCommit
  dsimp only
  split
  next => exact .keeps _
  next hlimits => exact .setsCommit ⟨by omega, by omega⟩ (by omega)

end Sys2Proof.Machine
end

section
/-! The inversion of `exec`: everything that a row can make of the state. -/

namespace Sys2Proof.Machine

variable {s t : State} {c : ClientNo} {w : WindowNo}

/-- Everything that the row `i` can make of `s`, with what the row checked. -/
inductive Happens (s : State) : Instr → State → Prop where
  /-- The row is no event of the part, and nothing changes. -/
  | idles (i : Instr) : Happens s i s
  /-- A client command completes outside an OPEN session. -/
  | closedOut {c : ClientNo} {h : Held} (hrun : s.running? = some (ClientNo.window c, h)) :
      Happens s (rowOf h.command) (s.post (ClientNo.window c) h.command (.refusal .closed))
  /-- A client command completes. -/
  | client {c : ClientNo} {m : MapNo} {h : Held} {u : State} {r : Reply} (hrun : RunsClient s c m h)
      (heffect : ClientEffect s c m h.command u) :
      Happens s (rowOf h.command) (u.post (ClientNo.window c) h.command r)
  /-- A supervisor command completes. -/
  | supervisor {h : Held} {u : State} {r : Reply} (hrun : RunsSupervisor s h) (heffect : SupervisorEffect s h.command u) :
      Happens s (rowOf h.command) (u.post .ws h.command r)
  /-- The free engine takes a piece of work. -/
  | takes {w : Work} (hfree : s.work = none) (hchoice : s.choice = some w) : Happens s .engineTake (s.take w)
  /-- A slice in progress with no teardown pending frees the engine. -/
  | sliceDrops (hwork : s.work = some .slice) (hbusy : s.teardownBusy = false) :
      Happens s .teardownSlice { s with work := none }
  /-- A slice finds no item. -/
  | sliceEnds {c : ClientNo} (hrun : RunsSlice s c) (hrecords : s.sliceRecords c = []) (hcells : s.sliceCells c = []) :
      Happens s .teardownSlice { endTeardown c s with work := none }
  /-- A slice takes items. -/
  | sliceTakes {c : ClientNo} (hrun : RunsSlice s c) : Happens s .teardownSlice { takeItems c s with work := none }
  /-- A stretch of BLANK holds no edge. -/
  | watches (low high : Nat) : Happens s (.blankStartEdge low high) { s with blank := s.blank.watch low high }
  /-- A stretch of BLANK holds an edge. -/
  | boundary (low high : Nat) :
      Happens s (.blankStartEdge low high) ({ s with blank := s.blank.watch low high } : State).commit.countdown
  /-- A countdown. -/
  | counts : Happens s .coolingExpiry s.countdown
  /-- A lookup. -/
  | looksUp (m : MapNo) (i : Index) (low period : Nat) :
      Happens s (.lookup m i low period) { s with scanResult := (s.cell (cellOf m i)).visible }
  /-- RESET is held. -/
  | resetHeld : Happens s .powerOnReset { State.powerOn s.supMaster with resetHeld := true, pending := s.pending }
  /-- RESET is released. -/
  | resetReleased {supm : MasterNo} (hheld : s.resetHeld = true) :
      Happens s (.resetRelease supm) { State.powerOn supm with pending := s.pending }
  /-- An access is denied. -/
  | denied {i : Instr} {w : WindowNo} {b : MasterNo} {o : Offset} {a : Access} (haccess : accessOf i = some (w, b, o, a))
      (hstranger : s.IsStranger w b) : Happens s i (s.deny w b o a)
  /-- The master of WS writes the code of PART_RESET to its CMD. -/
  | partReset {i : Instr} {b : MasterNo} {data : Word} (haccess : accessOf i = some (.ws, b, 0x0, .write data))
      (hpermitted : ¬ s.IsStranger .ws b) (hcode : data.setWidth 8 = (0x1F : BitVec 8)) : Happens s i s.partReset
  /-- A write to a window leaves its slot. -/
  | writes (i : Instr) {w : WindowNo} {x : Window} (hslot : x.slot = (s.window w).slot) : Happens s i (s.setWindow w x)
  /-- A write to CMD is answered by HI. -/
  | answers (i : Instr) {w : WindowNo} (code : BitVec 8) (r : ResultCode) (hfree : (s.window w).slot.held? = none) :
      Happens s i (s.answerWrite w code r)
  /-- A write to CMD is accepted. -/
  | accepts (i : Instr) {w : WindowNo} {cmd : Command} {code : BitVec 8} (hfree : (s.window w).slot.held? = none)
      (hcmd : commandAt w code = some cmd) (hopen : s.windowOpen w = true) : Happens s i (s.accept w cmd)
  /-- A write to FAULT. -/
  | clearsFault (i : Instr) : Happens s i { s with fault := none, more := false }
  /-- A write to INSP_SEL. -/
  | selects (i : Instr) (data : Word) : Happens s i { s with cursor := s.cursor.select data }
  /-- A read that moves nothing. -/
  | reads (i : Instr) (v : Word) : Happens s i (s.answerRead v)
  /-- A read of INSP_DATA. -/
  | inspects (i : Instr) : Happens s i { s.answerRead s.inspWord with cursor := s.inspNext }

/-! ### Completions -/

theorem happens_completeClient {cmd : Command} {body : ClientNo → MapNo → Held → State → State × Reply}
    (heffect : ∀ c m h, ClientEffect s c m cmd (body c m h s).1) : Happens s (rowOf cmd) (s.completeClient cmd body) := by
  obtain heq | ⟨c, h, -, hrun, rfl, -, heq⟩ | ⟨c, m, h, hrun, rfl, heq⟩ := s.completeClient_cases cmd body
  · rw [heq]
    exact .idles _
  · rw [heq]
    exact .closedOut hrun
  · rw [heq]
    exact .client hrun (heffect c m h)

theorem happens_completeSupervisor {cmd : Command} {body : Held → State → State × Reply}
    (heffect : ∀ h, SupervisorEffect s cmd (body h s).1) : Happens s (rowOf cmd) (s.completeSupervisor cmd body) := by
  obtain heq | ⟨h, hrun, rfl, heq⟩ := s.completeSupervisor_cases cmd body
  · rw [heq]
    exact .idles _
  · rw [heq]
    exact .supervisor hrun (heffect h)

theorem happens_teardownSlice (hexec : execTeardownSlice s = .next t) : Happens s .teardownSlice t := by
  unfold execTeardownSlice at hexec
  split at hexec
  next =>
    cases hexec
    exact .idles _
  next hpower =>
    split at hexec
    next hwork =>
      cases hbusy : s.teardownBusy with
      | false =>
        rw [hbusy, if_neg Bool.false_ne_true] at hexec
        cases hexec
        exact .sliceDrops hwork hbusy
      | true =>
        rw [hbusy, if_pos rfl] at hexec
        cases hexec
        have hrun : RunsSlice s s.teardownClient := ⟨by simpa using hpower, hwork, hbusy, rfl⟩
        by_cases hitems : s.sliceRecords s.teardownClient = [] ∧ s.sliceCells s.teardownClient = []
        · rw [slice_of_no_item hitems.1 hitems.2]
          exact .sliceEnds hrun hitems.1 hitems.2
        · rw [slice_of_items (not_and_or.mp hitems)]
          exact .sliceTakes hrun
    all_goals
      cases hexec
      exact .idles _

/-! ### Accesses -/

theorem happens_commandWrite {i : Instr} {b : MasterNo} {data : Word}
    (haccess : accessOf i = some (w, b, 0x0, .write data)) (hpermitted : ¬ s.IsStranger w b) :
    Happens s i (s.commandWrite w data) := by
  by_cases hslot : w = .ws ∧ data.setWidth 8 = (0x1F : BitVec 8)
  · obtain ⟨rfl, hcode⟩ := hslot
    have heq : s.commandWrite .ws data = s.partReset := if_pos ⟨rfl, hcode⟩
    rw [heq]
    exact .partReset haccess hpermitted hcode
  · by_cases hfree : (s.window w).slot.held? = none
    · rw [State.commandWrite_of_free hslot hfree]
      split
      next => exact .answers i _ _ hfree
      next cmd hcmd =>
        split
        next hopen => exact .accepts i hfree hcmd hopen
        next => exact .answers i _ _ hfree
    · rw [State.commandWrite_of_held hslot hfree]
      exact .writes i rfl

theorem happens_writeReg {i : Instr} {b : MasterNo} {o : Offset} {data : Word}
    (haccess : accessOf i = some (w, b, o, .write data)) (hpermitted : ¬ s.IsStranger w b) (r : Reg)
    (hcmd : r = .cmd → o = 0x0) : Happens s i (s.writeReg w data r) := by
  cases r with
  | cmd => exact happens_commandWrite (hcmd rfl ▸ haccess) hpermitted
  | arg0 | arg1 | arg2 | evPend | evEn => exact .writes i rfl
  | fault => exact .clearsFault i
  | inspSel => exact .selects i data
  | res0 | res1 | status | inspData | teardown | queueLevel => exact .idles i

theorem happens_readReg (i : Instr) (r : Reg) : Happens s i (s.readReg w r) := by
  cases r with
  | inspData => exact .inspects i
  | _ => exact .reads i _

/-- CMD stands at offset 0 alone (R154). -/
theorem offset_of_regAt_cmd {o : Offset} (h : regAt w o = some .cmd) : o = 0x0 := by
  revert w o
  decide

theorem happens_access {i : Instr} {b : MasterNo} {o : Offset} {a : Access} (haccess : accessOf i = some (w, b, o, a)) :
    Happens s i (s.access w b o a) := by
  cases hpower : s.resetHeld with
  | true =>
    rw [State.access, hpower, if_pos rfl]
    exact .idles i
  | false =>
    by_cases hstranger : s.IsStranger w b
    · rw [State.access_of_denied hpower (State.permitted_eq_false_iff.mpr hstranger)]
      exact .denied haccess hstranger
    · rw [State.access_of_permitted hpower (State.permitted_of_not_stranger hstranger)]
      cases a with
      | read =>
        rw [State.permittedAccess]
        split
        next => exact .reads i 0
        next r hr => exact happens_readReg i r
      | write data =>
        rw [State.permittedAccess]
        split
        next => exact .idles i
        next r hr => exact happens_writeReg haccess hstranger r fun heq => offset_of_regAt_cmd (heq ▸ hr)

/-- A row whose address names no window moves nothing (R154). -/
theorem happens_accessAt_none (i : Instr) (b : MasterNo) (o : Offset) (a : Access) : Happens s i (s.accessAt none b o a) := by
  cases a with
  | read =>
    rw [State.accessAt_none_read]
    split
    next => exact .idles i
    next => exact .reads i 0
  | write data => exact .idles i

theorem happens_deniedAccess (k : WindowField) (b : MasterNo) (o : Offset) (a : Access) :
    Happens s (.deniedAccess k b o a) (s.accessAt (windowAt k) b o a) := by
  cases hw : windowAt k with
  | none => exact happens_accessAt_none _ b o a
  | some w => exact happens_access (by rw [accessOf, hw]; rfl)

theorem happens_registerWrite (addr : HostAddr) (b : MasterNo) (data : Word) :
    Happens s (.registerWrite addr b data) (s.accessAt (addrWindow addr) b (addrOffset addr) (.write data)) := by
  cases hw : addrWindow addr with
  | none => exact happens_accessAt_none _ b _ _
  | some w => exact happens_access (by rw [accessOf, hw]; rfl)

/-! ### Every row -/

/-- What `exec` answers is one of the things that can happen. -/
theorem happens_of_exec {i : Instr} (hexec : exec i s = .next t) : Happens s i t := by
  cases i with
  | teardownSlice => exact happens_teardownSlice hexec
  | engineTake =>
    change execEngineTake s = .next t at hexec
    unfold execEngineTake at hexec
    split at hexec
    next =>
      cases hexec
      exact .idles _
    next hidle =>
      split at hexec
      next =>
        cases hexec
        exact .idles _
      next w hchoice =>
        cases hexec
        exact .takes (by simp_all) hchoice
  | blankStartEdge low high =>
    change execBlankStartEdge low high s = .next t at hexec
    unfold execBlankStartEdge at hexec
    split at hexec
    next =>
      cases hexec
      exact .idles _
    next =>
      cases hexec
      split
      next => exact .boundary low high
      next => exact .watches low high
  | coolingExpiry =>
    change execCoolingExpiry s = .next t at hexec
    unfold execCoolingExpiry at hexec
    split at hexec <;> cases hexec
    next => exact .idles _
    next => exact .counts
  | lookup m x low period =>
    change execLookup m x low period s = .next t at hexec
    unfold execLookup at hexec
    split at hexec <;> cases hexec
    next => exact .idles _
    next => exact .looksUp m x low period
  | resetRelease supm =>
    change execResetRelease supm s = .next t at hexec
    unfold execResetRelease at hexec
    split at hexec <;> cases hexec
    next hheld => exact .resetReleased hheld
    next => exact .idles _
  | powerOnReset => cases hexec; exact .resetHeld
  | allocShared => cases hexec; exact happens_completeClient fun _ _ _ => allocShared_effect
  | hold => cases hexec; exact happens_completeClient fun _ _ _ => hold_effect
  | free => cases hexec; exact happens_completeClient fun _ _ _ => free_effect
  | publish => cases hexec; exact happens_completeClient fun _ _ _ => publish_effect
  | allocPrivate => cases hexec; exact happens_completeClient fun _ _ _ => allocPrivate_effect
  | store => cases hexec; exact happens_completeClient fun _ _ _ => store_effect
  | freeRun => cases hexec; exact happens_completeClient fun _ _ _ => freeRun_effect
  | read => cases hexec; exact happens_completeClient fun _ _ _ => read_effect
  | query => cases hexec; exact happens_completeClient fun _ _ _ => query_effect
  | batchOpen => cases hexec; exact happens_completeClient fun _ _ _ => openBatch_effect
  | batchClose => cases hexec; exact happens_completeClient fun _ _ _ => closeBatch_effect
  | clientOpen => cases hexec; exact happens_completeSupervisor fun _ => openClient_effect
  | clientQuota => cases hexec; exact happens_completeSupervisor fun _ => setQuota_effect
  | clientClose => cases hexec; exact happens_completeSupervisor fun _ => closeClient_effect
  | fix => cases hexec; exact happens_completeSupervisor fun _ => fix_effect
  | unfix => cases hexec; exact happens_completeSupervisor fun _ => unfix_effect
  | mapReset => cases hexec; exact happens_completeSupervisor fun _ => mapReset_effect
  | mapMode => cases hexec; exact happens_completeSupervisor fun _ => mapMode_effect
  | flush => cases hexec; exact happens_completeSupervisor fun _ => flush_effect
  | setCommit => cases hexec; exact happens_completeSupervisor fun _ => setCommit_effect
  | commandWrite | partReset | evPendWrite | evEnWrite | faultWrite | inspSelWrite | inspDataRead =>
    cases hexec
    exact happens_access rfl
  | deniedAccess k b o a => cases hexec; exact happens_deniedAccess k b o a
  | registerWrite addr b data => cases hexec; exact happens_registerWrite addr b data

/-- A step takes nothing, or lets the row at the front of the queue happen. -/
theorem step_cases (hstep : step s = .next t) :
    t = s ∨ ∃ i rest, Happens { s with pending := rest } i t := by
  unfold step at hstep
  split at hstep
  next =>
    cases hstep
    exact .inl rfl
  next i rest _ => exact .inr ⟨i, rest, happens_of_exec hstep⟩

end Sys2Proof.Machine
end

section
/-! Proofs on the engine's laws (R94, R103, R105, R121): what completions leave of the slots, the work in progress and the session
states, and that every row keeps the laws. -/

namespace Sys2Proof.Machine

variable {s t u : State} {c : ClientNo} {m : MapNo} {w : WindowNo} {cmd : Command}

/-! ### What the shared operations leave -/

/-- Setting an event pending leaves the slot (R108). -/
@[simp] theorem Window.raise_slot (e : Event) (x : Window) : (x.raise e).slot = x.slot := rfl

@[simp] theorem Window.signalled_slot (x : Window) (e : BitVec 4) : (x.signalled e).slot = x.slot := rfl

@[simp] theorem Session.recount_state (x : Session) (owned held : Nat) : (x.recount owned held).state = x.state := rfl

@[simp] theorem State.slot_setCounts (s : State) (c : ClientNo) (owned held : Nat) (w : WindowNo) :
    ((s.setCounts c owned held).window w).slot = (s.window w).slot := by
  rw [State.window_setCounts]
  split <;> rfl

@[simp] theorem State.slot_setValue (s : State) (n : CellNo) (v : Colour) (tag : Option Tag) (w : WindowNo) :
    ((s.setValue n v tag).window w).slot = (s.window w).slot := by
  rw [State.setValue_window]
  split <;> rfl

@[simp] theorem State.state_setCounts (s : State) (c : ClientNo) (owned held : Nat) (d : ClientNo) :
    ((s.setCounts c owned held).session d).state = (s.session d).state := by
  rw [State.session_setCounts]
  split
  next h => rw [h, Session.recount_state]
  next => rfl

/-- A client command changes nothing but the cells, the records, the queue, the sessions and the windows. -/
theorem ClientEffect.keepsRest (h : ClientEffect s c m cmd u) : KeepsRest s u := by
  cases h with
  | dropsRecord _ hfound =>
    obtain ⟨r, hr, -⟩ := State.holding_of_findHolding hfound
    rw [s.removeRecord_eq hr]
    constructor <;> simp
  | takesRun => exact keepsRest_takeRun _ _
  | makesRecord => constructor <;> simp [State.placeRecord]
  | makesShared => constructor <;> simp [State.placeRecord]
  | givesBack => constructor <;> simp [State.giveBack]
  | makesPublic => constructor <;> simp [makePublic]
  | _ => constructor <;> simp

/-- The slots, the work in progress, the session states and the pending teardown are unchanged. -/
structure KeepsEngine (s t : State) : Prop where
  slots : ∀ w, (t.window w).slot = (s.window w).slot
  work : t.work = s.work
  states : ∀ c, (t.session c).state = (s.session c).state
  busy : t.teardownBusy = s.teardownBusy
  client : t.teardownClient = s.teardownClient

theorem EngineHolds.of_keeps (h : EngineHolds s) (hk : KeepsEngine s t) : EngineHolds t where
  running w := by rw [hk.slots, hk.work]; exact h.running w
  command w := by rw [hk.slots]; exact h.command w
  session c := by rw [hk.slots, hk.states]; exact h.session c
  slice := by rw [hk.work, hk.busy]; exact h.slice
  closing c := by rw [hk.states, hk.busy, hk.client]; exact h.closing c

theorem ClientEffect.keepsEngine (h : ClientEffect s c m cmd u) : KeepsEngine s u where
  busy := h.keepsRest.teardownBusy
  client := h.keepsRest.teardownClient
  slots w := by
    cases h with
    | dropsRecord _ hfound =>
      obtain ⟨r, hr, -⟩ := State.holding_of_findHolding hfound
      simp [s.removeRecord_eq hr]
    | makesRecord | makesShared => simp [State.placeRecord]
    | givesBack => simp [State.giveBack]
    | makesPublic => simp [makePublic]
    | takesRun => simp [takeRun]
    | _ => simp
  work := by
    cases h with
    | dropsRecord _ hfound =>
      obtain ⟨r, hr, -⟩ := State.holding_of_findHolding hfound
      simp [s.removeRecord_eq hr]
    | makesRecord | makesShared => simp [State.placeRecord]
    | givesBack => simp [State.giveBack]
    | makesPublic => simp [makePublic]
    | takesRun => simp [takeRun]
    | _ => simp
  states d := by
    cases h with
    | dropsRecord _ hfound =>
      obtain ⟨r, hr, -⟩ := State.holding_of_findHolding hfound
      simp [s.removeRecord_eq hr]
    | makesRecord | makesShared => simp [State.placeRecord]
    | givesBack => simp [State.giveBack]
    | makesPublic => simp [makePublic]
    | takesRun => simp [takeRun]
    | opensBatch | closesBatch =>
      rw [State.session_setSession]
      split
      next hd => rw [hd]
      next => rfl
    | _ => simp

/-- A supervisor's command that opens and closes no session leaves the engine's fields. -/
theorem SupervisorEffect.keepsEngine (h : SupervisorEffect s cmd u) (hopen : cmd ≠ .clientOpen)
    (hclose : cmd ≠ .clientClose) : KeepsEngine s u := by
  cases h with
  | opens => exact absurd rfl hopen
  | closes => exact absurd rfl hclose
  | setsQuota =>
    refine ⟨fun _ => rfl, rfl, fun d => ?_, rfl, rfl⟩
    rw [State.session_setSession]
    split
    next hd => rw [hd]
    next => rfl
  | resetsMap m =>
    refine ⟨fun w => ?_, rfl, fun d => ?_, rfl, rfl⟩
    · rw [window_resetMap]
      split <;> rfl
    · rw [session_resetMap]
      split <;> rfl
  | fixes => exact ⟨fun w => by simp [State.fixCell], by simp [State.fixCell], fun d => by simp [State.fixCell],
      by simp [State.fixCell], by simp [State.fixCell]⟩
  | keeps | unfixes | drainsMap | setsMap | flushes | setsCommit =>
    exact ⟨fun _ => rfl, rfl, fun _ => rfl, rfl, rfl⟩

/-! ### Posts, openings and closings -/

/-- A result posted for the command in progress frees the engine and leaves no slot RUNNING (R103, R106). -/
theorem EngineHolds.post (h : EngineHolds s) (hwork : s.work = some (.command w)) (cmd : Command) (r : Reply) :
    EngineHolds (s.post w cmd r) where
  running j := by
    rw [State.window_post, State.post_work]
    by_cases hj : j = w
    · simp [hj, Window.completed, Slot.isRunning]
    · have hrun := h.running j
      simp [hwork, Ne.symm hj] at hrun
      simp [hj, hrun]
  command j held hheld := by
    rw [State.window_post] at hheld
    split at hheld
    next => cases hheld
    next => exact h.command j held hheld
  session d held hheld := by
    rw [State.window_post] at hheld
    rw [State.session_post]
    split at hheld
    next => cases hheld
    next => exact h.session d held hheld
  slice hslice := by cases hslice
  closing d := h.closing d

/-- An opened session (R115): its window holds no command, and none held one that was not OPEN. -/
theorem EngineHolds.opens (h : EngineHolds s) (hwork : s.work = some (.command .ws)) {b : MasterNo} {quota warning : Nat}
    (hclosed : (s.session c).state = .closed) :
    EngineHolds ((s.setSession c (.opened m b quota warning)).setWindow c.window (s.window c.window).opened) where
  running j := by
    rw [State.window_setWindow, State.setWindow_work, State.setSession_work, hwork]
    split
    next hj =>
      subst hj
      simp [Window.opened, Slot.isRunning, ws_ne_client_window]
    next => rw [State.window_setSession, h.running j, hwork]
  command j held hheld := by
    rw [State.window_setWindow] at hheld
    split at hheld
    next => cases hheld
    next => exact h.command j held hheld
  session d held hheld := by
    rw [State.window_setWindow] at hheld
    rw [State.session_setWindow, State.session_setSession]
    split at hheld
    next => cases hheld
    next hd =>
      rw [if_neg (hd ∘ congrArg ClientNo.window)]
      exact h.session d held hheld
  slice hslice := by
    rw [State.setWindow_work, State.setSession_work, hwork] at hslice
    cases hslice
  closing d := by
    rw [State.session_setWindow, State.session_setSession, State.setWindow_teardownBusy, State.setSession_teardownBusy,
      State.setWindow_teardownClient, State.setSession_teardownClient, ← h.closing d]
    split
    next hd =>
      rw [hd, hclosed]
      simp [Session.opened, SessionState.isClosing]
    next => rfl

/-- A window that CLIENT_CLOSE closes holds no command afterwards but a RUNNING one (R119). -/
theorem Window.held?_revoked {x : Window} (hidle : x.slot.isRunning = false) : x.revoked.slot.held? = none := by
  unfold Window.revoked
  cases hx : x.slot with
  | empty | complete => exact congrArg Slot.held? hx
  | waiting held => rfl
  | running held => simp [hx, Slot.isRunning] at hidle

theorem Window.isRunning_revoked (x : Window) : x.revoked.slot.isRunning = x.slot.isRunning := by
  unfold Window.revoked
  split
  next hx => rw [hx]; rfl
  all_goals rfl

/-- While a command of WS runs no client's does (R103). -/
theorem EngineHolds.client_idle (h : EngineHolds s) (hwork : s.work = some (.command .ws)) (c : ClientNo) :
    (s.window c.window).slot.isRunning = false :=
  Bool.eq_false_iff.mpr fun hrun => by
    have hclient := (h.running _).mp hrun
    simp [hwork, ws_ne_client_window] at hclient

/-- A closed session (R119): its teardown is the one that is pending, and its window holds no command. -/
theorem EngineHolds.closes (h : EngineHolds s) (hwork : s.work = some (.command .ws)) {b : MasterNo}
    (hbusy : s.teardownBusy = false) : EngineHolds (closeSession c m b s) where
  running j := by
    rw [window_closeSession]
    split
    next hj => rw [hj, Window.isRunning_revoked]; exact h.running _
    next => exact h.running j
  command j held hheld := by
    rw [window_closeSession] at hheld
    split at hheld
    next => rw [Window.held?_revoked (h.client_idle hwork c)] at hheld; cases hheld
    next => exact h.command j held hheld
  session d held hheld := by
    rw [window_closeSession] at hheld
    rw [session_closeSession]
    split at hheld
    next => rw [Window.held?_revoked (h.client_idle hwork c)] at hheld; cases hheld
    next hd =>
      rw [if_neg (hd ∘ congrArg ClientNo.window)]
      exact h.session d held hheld
  slice hslice := rfl
  closing d := by
    have hnone := h.closing d
    rw [session_closeSession]
    split
    next hd => simp [hd, SessionState.isClosing, closeSession]
    next hd => simpa [hbusy, closeSession, Ne.symm hd] using hnone

theorem SupervisorEffect.engineHolds (h : SupervisorEffect s cmd u) (he : EngineHolds s)
    (hwork : s.work = some (.command .ws)) : EngineHolds u := by
  cases h with
  | opens hclosed => exact he.opens hwork hclosed
  | closes _ hbusy => exact he.closes hwork hbusy
  | setsQuota hq hw hc => exact he.of_keeps ((SupervisorEffect.setsQuota hq hw hc).keepsEngine (by simp) (by simp))
  | fixes hs hr => exact he.of_keeps ((SupervisorEffect.fixes hs hr).keepsEngine (by simp) (by simp))
  | resetsMap m => exact he.of_keeps ((SupervisorEffect.resetsMap m).keepsEngine (by simp) (by simp))
  | keeps => exact he
  | unfixes | drainsMap | setsMap | flushes | setsCommit => exact he.of_keeps ⟨fun _ => rfl, rfl, fun _ => rfl, rfl, rfl⟩

theorem SupervisorEffect.work (h : SupervisorEffect s cmd u) : u.work = s.work := by
  cases h with
  | fixes => simp [State.fixCell]
  | _ => rfl

end Sys2Proof.Machine
end

section
/-! Proofs on the engine's laws, continued: the taking of work, slices, accesses and resets, and the step (O5). -/

namespace Sys2Proof.Machine

variable {s t u : State} {c : ClientNo} {m : MapNo} {w : WindowNo} {cmd : Command}

/-! ### The taking of work -/

theorem State.choice_command (h : s.choice = some (.command w)) : (s.window w).slot.isWaiting = true := by
  unfold State.choice at h
  split at h
  next hws =>
    cases h
    exact hws
  next =>
    split at h
    next => cases h
    next =>
      split at h
      next c hc =>
        cases h
        exact List.find?_some (p := fun c : ClientNo => (s.window c.window).slot.isWaiting) hc
      next => split at h <;> cases h

theorem State.choice_slice (h : s.choice = some .slice) : s.teardownBusy = true := by
  unfold State.choice at h
  split at h
  next => cases h
  next =>
    split at h
    next hturn => exact (Bool.and_eq_true_iff.mp hturn).1
    next =>
      split at h
      next => cases h
      next =>
        split at h
        next hbusy => exact hbusy
        next => cases h

theorem Slot.isRunning_take {x : Slot} (h : x.isWaiting = true) : x.take.isRunning = true := by
  cases x with
  | waiting held => rfl
  | _ => cases h

theorem Slot.held?_take (x : Slot) : x.take.held? = x.held? := by
  cases x <;> rfl

theorem State.window_takeCommand (s : State) (w j : WindowNo) :
    (s.takeCommand w).window j = if j = w then { s.window w with slot := (s.window w).slot.take } else s.window j :=
  s.window_setWindow w _ j

/-- A WAITING command that a free engine takes becomes the one that is RUNNING (R105). -/
theorem EngineHolds.takeCommand (h : EngineHolds s) (hfree : s.work = none)
    (hwaiting : (s.window w).slot.isWaiting = true) : EngineHolds (s.takeCommand w) where
  running j := by
    rw [State.window_takeCommand]
    change _ ↔ some (Work.command w) = some (Work.command j)
    split
    next hj => simp [hj, Slot.isRunning_take hwaiting]
    next hj => simpa [hfree, Ne.symm hj] using h.running j
  command j held hheld := by
    rw [State.window_takeCommand] at hheld
    split at hheld
    next hj =>
      rw [Slot.held?_take] at hheld
      exact h.command j held (hj ▸ hheld)
    next => exact h.command j held hheld
  session d held hheld := by
    rw [State.window_takeCommand] at hheld
    split at hheld
    next hd =>
      rw [Slot.held?_take] at hheld
      exact h.session d held (hd ▸ hheld)
    next => exact h.session d held hheld
  slice hslice := by cases hslice
  closing d := h.closing d

theorem EngineHolds.takeSlice (h : EngineHolds s) (hfree : s.work = none) (hbusy : s.teardownBusy = true) :
    EngineHolds (s.take .slice) where
  running j := by
    change (s.window j).slot.isRunning = true ↔ some Work.slice = some (.command j)
    simpa [hfree] using h.running j
  command := h.command
  session := h.session
  slice _ := hbusy
  closing := h.closing

theorem EngineHolds.take (h : EngineHolds s) (hfree : s.work = none) {x : Work} (hchoice : s.choice = some x) :
    EngineHolds (s.take x) := by
  cases x with
  | slice => exact h.takeSlice hfree (State.choice_slice hchoice)
  | command w =>
    have htaken := h.takeCommand hfree (State.choice_command hchoice)
    unfold State.take
    dsimp only
    split
    next => exact htaken.of_keeps ⟨fun _ => rfl, rfl, fun _ => rfl, rfl, rfl⟩
    next => exact htaken.of_keeps ⟨fun _ => rfl, rfl, fun _ => rfl, rfl, rfl⟩

/-! ### Slices -/

/-- A slice that ends leaves the engine free: it had no slot RUNNING (R103). -/
theorem EngineHolds.endSlice (h : EngineHolds s) (hwork : s.work = some .slice) : EngineHolds { s with work := none } where
  running j := by
    change (s.window j).slot.isRunning = true ↔ none = some (Work.command j)
    simpa [hwork] using h.running j
  command := h.command
  session := h.session
  slice hslice := by cases hslice
  closing := h.closing

theorem TakesItems.keepsEngine {ks : List SlotNo} {ns : List CellNo} (h : TakesItems s c ks ns t) (hwork : t.work = s.work) :
    KeepsEngine s t where
  slots w := by rw [State.window, h.counts.windows]; rfl
  work := hwork
  states d := by
    by_cases hd : d = c
    · rw [hd, h.counts.session, Session.recount_state]
    · rw [h.counts.sessions d hd]
  busy := h.counts.rest.teardownBusy
  client := h.counts.rest.teardownClient

theorem takeItems_work (s : State) (c : ClientNo) : (takeItems c s).work = s.work := by
  have hcell (t : State) (n : CellNo) : (t.giveBackCell c n).work = t.work := by simp [State.giveBackCell]
  have hrecord (t : State) (k : SlotNo) : (t.removeRecord c k).work = t.work := by
    unfold State.removeRecord
    split <;> simp
  exact List.foldlRecOn (motive := fun t => t.work = s.work) _ _
    (List.foldlRecOn (motive := fun t => t.work = s.work) _ _ rfl fun t ht k _ => (hrecord t k).trans ht)
    fun t ht n _ => (hcell t n).trans ht

/-- The end of a teardown closes the one CLOSING session (R124). -/
theorem EngineHolds.endTeardown (h : EngineHolds s) (hrun : RunsSlice s c) :
    EngineHolds { Machine.endTeardown c s with work := none } := by
  have hclosing : (s.session c).state.isClosing = true := (h.closing c).mpr ⟨hrun.busy, hrun.client⟩
  have hslot (w : WindowNo) : ((Machine.endTeardown c s).window w).slot = (s.window w).slot := by
    change (((s.setSession c _).raise _ _).window w).slot = _
    rw [State.window_raise]
    split
    next hw => rw [hw]; rfl
    next => rfl
  have hsession (d : ClientNo) : (Machine.endTeardown c s).session d = if d = c then (s.session c).ended else s.session d :=
    s.session_setSession c _ d
  refine ⟨fun j => ?running, fun j held hheld => ?command, fun d held hheld => ?session, fun hslice => ?slice,
    fun d => ?closing⟩
  case running =>
    have hidle := h.running j
    change ((Machine.endTeardown c s).window j).slot.isRunning = true ↔ none = _
    rw [hslot]
    simpa [hrun.work] using hidle
  case command => exact h.command j held (hslot j ▸ hheld)
  case session =>
    have hopen := h.session d held (hslot _ ▸ hheld)
    change ((Machine.endTeardown c s).session d).state.isOpen = true
    rw [hsession, if_neg]
    · exact hopen
    · rintro rfl
      cases hx : (s.session d).state <;> simp [hx, SessionState.isOpen, SessionState.isClosing] at hopen hclosing
  case slice => cases hslice
  case closing =>
    have hother := h.closing d
    change ((Machine.endTeardown c s).session d).state.isClosing = true ↔ false = true ∧ _
    rw [hsession]
    split
    next => simp [Session.ended, SessionState.isClosing]
    next hd => simpa [hrun.client, Ne.symm hd] using hother

/-! ### Accesses -/

theorem keepsEngine_deny (s : State) (w : WindowNo) (b : MasterNo) (o : Offset) (a : Access) :
    KeepsEngine s (s.deny w b o a) := by
  rw [State.deny_eq]
  refine ⟨fun j => ?_, rfl, fun _ => rfl, rfl, rfl⟩
  change ((s.setWindow .ws _).window j).slot = _
  rw [State.window_setWindow]
  split
  next hj => rw [hj, Window.signalled_slot]
  next => rfl

theorem keepsEngine_setWindow {x : Window} (hslot : x.slot = (s.window w).slot) : KeepsEngine s (s.setWindow w x) := by
  refine ⟨fun j => ?_, rfl, fun _ => rfl, rfl, rfl⟩
  rw [State.window_setWindow]
  split
  next hj => rw [hj, hslot]
  next => rfl

/-- A window whose slot holds no command takes a new slot: COMPLETE, or WAITING with a command of the window, whose session is
OPEN (R95). -/
theorem EngineHolds.setSlot (h : EngineHolds s) {x : Window} (hfree : (s.window w).slot.held? = none)
    (hidle : x.slot.isRunning = false)
    (hheld : ∀ held, x.slot.held? = some held →
      commandAt w held.command.code = some held.command ∧ s.windowOpen w = true) : EngineHolds (s.setWindow w x) where
  running j := by
    have hrun := h.running j
    rw [State.window_setWindow]
    split
    next hj =>
      subst hj
      have hold : (s.window j).slot.isRunning = false := by
        cases hx : (s.window j).slot with
        | running held => simp [hx, Slot.held?] at hfree
        | _ => rfl
      rw [hidle, ← hold]
      exact hrun
    next => exact hrun
  command j held hj := by
    rw [State.window_setWindow] at hj
    split at hj
    next heq => exact heq ▸ (hheld held hj).1
    next => exact h.command j held hj
  session d held hd := by
    rw [State.window_setWindow] at hd
    split at hd
    next heq =>
      rw [State.session_setWindow, ← State.windowOpen_client, heq]
      exact (hheld held hd).2
    next => exact h.session d held hd
  slice := h.slice
  closing := h.closing

/-- A code names a command in a window only where it is the command's code (R157, R158). -/
theorem code_of_commandAt {code : BitVec 8} (h : commandAt w code = some cmd) : cmd.code = code := by
  unfold commandAt supervisorCommand clientCommand at h
  split at h
  all_goals
    split at h
    all_goals first
      | cases h; done
      | cases h; next hcode => exact (BitVec.eq_of_toNat_eq hcode).symm

/-! ### Resets -/

/-- A part with every window and session as after a reset, and an engine with nothing to do. -/
theorem engineHolds_of_reset (hwindows : ∀ w, s.window w = .reset) (hsessions : ∀ c, s.session c = .reset)
    (hwork : s.work = none) (hbusy : s.teardownBusy = false) : EngineHolds s where
  running w := by simp [hwindows, hwork, Window.reset, Slot.isRunning]
  command w held hheld := by simp [hwindows, Window.reset, Slot.held?] at hheld
  session c held hheld := by simp [hwindows, Window.reset, Slot.held?] at hheld
  slice hslice := by simp [hwork] at hslice
  closing c := by simp [hsessions, hbusy, Session.reset, SessionState.isClosing]

theorem window_powerOn (supm : MasterNo) (w : WindowNo) : (State.powerOn supm).window w = .reset :=
  Vector.getElem_replicate _

theorem session_powerOn (supm : MasterNo) (c : ClientNo) : (State.powerOn supm).session c = .reset :=
  Vector.getElem_replicate _

theorem engineHolds_powerOn (supm : MasterNo) : EngineHolds (State.powerOn supm) :=
  engineHolds_of_reset (window_powerOn supm) (session_powerOn supm) rfl rfl

/-! ### Every row -/

theorem Happens.engineHolds {i : Instr} (h : Happens s i t) (he : EngineHolds s) : EngineHolds t := by
  cases h with
  | idles => exact he
  | closedOut hrun => exact he.post (State.running_eq_some hrun).1 _ _
  | client hrun heffect =>
    exact (he.of_keeps heffect.keepsEngine).post (heffect.keepsEngine.work.trans hrun.work) _ _
  | supervisor hrun heffect =>
    exact (heffect.engineHolds he hrun.work).post (heffect.work.trans hrun.work) _ _
  | takes hfree hchoice => exact he.take hfree hchoice
  | sliceDrops hwork => exact he.endSlice hwork
  | sliceEnds hrun => exact he.endTeardown hrun
  | sliceTakes hrun =>
    exact (he.of_keeps ((takesItems_takeItems s _).keepsEngine (takeItems_work s _))).endSlice
      ((takeItems_work s _).trans hrun.work)
  | denied => exact he.of_keeps (keepsEngine_deny s _ _ _ _)
  | writes _ hslot => exact he.of_keeps (keepsEngine_setWindow hslot)
  | answers _ _ _ hfree => exact he.setSlot hfree rfl fun held hheld => by cases hheld
  | accepts _ hfree hcmd hopen =>
    refine he.setSlot hfree rfl fun held hheld => ?_
    cases hheld
    exact ⟨by rw [code_of_commandAt hcmd]; exact hcmd, hopen⟩
  | boundary => exact he.of_keeps ⟨fun _ => by simp; rfl, by simp, fun _ => by simp; rfl, by simp, by simp⟩
  | watches | counts | looksUp | clearsFault | selects | reads | inspects =>
    exact he.of_keeps ⟨fun _ => rfl, rfl, fun _ => rfl, rfl, rfl⟩
  | resetHeld | resetReleased | partReset =>
    exact (engineHolds_powerOn 0).of_keeps ⟨fun _ => rfl, rfl, fun _ => rfl, rfl, rfl⟩

/-- Settles O5: no row breaks the engine's laws, which do not read the queue of waiting rows. -/
theorem stepKeepsEngine : Obligations.StepKeepsEngine := by
  intro s t he hstep
  obtain rfl | ⟨i, rest, hrow⟩ := step_cases hstep
  · exact he
  · exact hrow.engineHolds (he.of_keeps ⟨fun _ => rfl, rfl, fun _ => rfl, rfl, rfl⟩)

end Sys2Proof.Machine
end

section
/-! Proofs on the accounts (R6, R20, R58, R62, R63, R66): the laws as sums over the tables, what keeps them when cells change hands,
when one record changes with its cell and its client's counts, and when sessions change, and that every row keeps them. -/

namespace Sys2Proof.Machine

variable {s t u : State} {c : ClientNo} {m : MapNo} {n : CellNo} {k : SlotNo} {cmd : Command}

/-! ### Counts as sums -/

theorem countP_eq_sum {α : Type} (p : α → Bool) (l : List α) : l.countP p = (l.map fun x => (p x).toNat).sum := by
  induction l with
  | nil => rfl
  | cons x l ih => cases hx : p x <;> simp [hx, ih, Nat.add_comm]

theorem collect_length {α : Type} {size : Nat} (p : Fin size → α → Bool) (table : Vector α size) :
    (collect p table).length = ∑ j : Fin size, (p j table[j.val]).toNat := by
  have hcount := collect_filter_length p table fun _ => true
  simp only [List.filter_true, Bool.true_and] at hcount
  rw [hcount, countP_eq_sum, Fin.sum_univ_def]

theorem State.countsOn_eq (s : State) (n : CellNo) : s.countsOn n = ∑ j, s.countAt n j := by
  unfold State.countsOn
  rw [sum_map_toList]
  refine Finset.sum_congr rfl fun j _ => ?_
  unfold State.countAt State.holding
  cases s.holdings[j.val] <;> rfl

theorem State.clientCells_length (s : State) (c : ClientNo) :
    (collect (fun _ x => x.ownedBy c) s.cells).length = ∑ n, (s.cellOwnedBy c n).toNat :=
  collect_length _ _

theorem State.clientRecords_sum (s : State) (c : ClientNo) :
    (collect (fun _ x => names c x) s.holdings).length = ∑ j, (s.recordOf c j).toNat := by
  rw [collect_length]
  exact Finset.sum_congr rfl fun j _ => congrArg Bool.toNat (names_holding s c j)

/-- Two sums that differ in one place. -/
theorem sum_add_of_eq_off {ι : Type} [Fintype ι] [DecidableEq ι] {f g : ι → ℕ} (a : ι) (h : ∀ j, j ≠ a → f j = g j) :
    ∑ j, f j + g a = ∑ j, g j + f a := by
  have hrest : ∑ j ∈ Finset.univ.erase a, f j = ∑ j ∈ Finset.univ.erase a, g j :=
    Finset.sum_congr rfl fun j hj => h j (Finset.ne_of_mem_erase hj)
  rw [← Finset.add_sum_erase _ f (Finset.mem_univ a), ← Finset.add_sum_erase _ g (Finset.mem_univ a), hrest]
  omega

theorem LedgerHolds.references_sum (h : LedgerHolds s) (n : CellNo) : s.references n = ∑ j, s.countAt n j := by
  rw [h.references, s.countsOn_eq]

theorem LedgerHolds.owned_sum (h : LedgerHolds s) (c : ClientNo) :
    (s.session c).owned = ∑ n, (s.cellOwnedBy c n).toNat := by
  rw [h.owned, s.clientCells_length]

theorem LedgerHolds.held_sum (h : LedgerHolds s) (c : ClientNo) : (s.session c).held = ∑ j, (s.recordOf c j).toNat := by
  rw [h.held, s.clientRecords_sum]

theorem State.cellOwnedBy_iff : s.cellOwnedBy c n = true ↔ (s.cell n).state = .owned c := decide_eq_true_iff

theorem State.recordOf_iff : s.recordOf c k = true ↔ ∃ r, s.holding k = some r ∧ r.client = c := by
  unfold State.recordOf
  cases s.holding k <;> simp

theorem State.countAt_of_none (h : s.holding k = none) (n : CellNo) : s.countAt n k = 0 := by
  rw [State.countAt, h]

theorem State.references_of_shared {r : Nat} (h : (s.cell n).state = .shared r) : s.references n = r := by
  rw [State.references, h]
  rfl

theorem State.references_of_not_shared (h : (s.cell n).isShared = false) : s.references n = 0 := by
  unfold State.references
  cases hx : (s.cell n).state with
  | shared r => simp [Cell.isShared, hx] at h
  | _ => rfl

/-- A cell that a record names is SHARED (R62). -/
theorem LedgerHolds.shared_of_holding (h : LedgerHolds s) {r : Holding} (hr : s.holding k = some r) :
    (s.cell r.cell).isShared = true := by
  by_contra hnot
  have hsum := h.references_sum r.cell
  rw [State.references_of_not_shared (Bool.eq_false_iff.mpr hnot), eq_comm, Finset.sum_eq_zero_iff] at hsum
  have hzero := hsum k (Finset.mem_univ k)
  rw [State.countAt_of_holding hr, if_pos rfl] at hzero
  have hcount := (h.record k r hr).1
  omega

/-- What one record counts is among the references of its cell (R62). -/
theorem LedgerHolds.count_le (h : LedgerHolds s) (n : CellNo) (k : SlotNo) : s.countAt n k ≤ s.references n := by
  rw [h.references_sum n]
  exact Finset.single_le_sum (f := fun j => s.countAt n j) (fun _ _ => Nat.zero_le _) (Finset.mem_univ k)

/-! ### Charges (R65, R66) -/

/-- A session's charge is within its quota, and its armed flag agrees with its charge and level (R65, R66). -/
structure Session.InOrder (x : Session) : Prop where
  quota : x.charge ≤ x.quota
  armed : x.armed = true ↔ x.warning ≠ 0 ∧ x.charge < x.warning

theorem LedgerHolds.inOrder (h : LedgerHolds s) (c : ClientNo) : (s.session c).InOrder := ⟨h.quota c, h.armed c⟩

/-- A recount keeps the armed flag in agreement (R67, R68). -/
theorem Session.InOrder.recount {x : Session} (h : x.InOrder) {owned held : Nat} (hquota : owned + held ≤ x.quota) :
    (x.recount owned held).InOrder where
  quota := hquota
  armed := by
    have harmed := h.armed
    unfold Session.charge at harmed
    change (if _ then _ else if _ then _ else _) = true ↔ x.warning ≠ 0 ∧ owned + held < x.warning
    split
    next => rw [Bool.and_eq_true, harmed, decide_eq_true_iff]; omega
    next =>
      split
      next => rw [Bool.or_eq_true, harmed, decide_eq_true_iff]; omega
      next => rw [harmed]; omega

/-! ### Cells that change hands -/

/-- The laws where the records are unchanged: SHARED cells stay as they are and none is new, and the sessions account for the
records and the cells that clients own. -/
theorem LedgerHolds.of_records (h : LedgerHolds s) (hrecords : t.holdings = s.holdings)
    (hshared : ∀ n, (s.cell n).isShared = true ∨ (t.cell n).isShared = true →
      (t.cell n).state = (s.cell n).state ∧ (t.cell n).working = (s.cell n).working)
    (howner : ∀ n c, (t.cell n).state = .owned c → (t.session c).state.map? = some (mapOf n))
    (hrecord : ∀ k r, s.holding k = some r → (t.session r.client).state.map? = some (mapOf r.cell))
    (howned : ∀ c, (t.session c).owned = ∑ n, (t.cellOwnedBy c n).toNat)
    (hheld : ∀ c, (t.session c).held = (s.session c).held)
    (horder : ∀ c, (t.session c).InOrder) : LedgerHolds t := by
  have hholding (k : SlotNo) : t.holding k = s.holding k := by rw [State.holding, hrecords]; rfl
  have hstate (n : CellNo) (hn : (t.cell n).isShared = true) := hshared n (.inr hn)
  have hback (n : CellNo) (hn : (t.cell n).isShared = true) : (s.cell n).isShared = true := by
    rwa [Cell.isShared, ← (hstate n hn).1]
  refine ⟨howner, fun k r hr => ?record, fun k k' r r' hr hr' => ?oneRecord, fun n => ?references, fun n r hr => ?shared,
    fun c => ?owned, fun c => ?held, fun c => (horder c).quota, fun c => (horder c).armed,
    fun n n' hn hn' hmap hv => ?value⟩
  case record =>
    rw [hholding] at hr
    obtain ⟨hlo, hhi, -⟩ := h.record k r hr
    exact ⟨hlo, hhi, hrecord k r hr⟩
  case oneRecord => exact h.oneRecord k k' r r' (hholding k ▸ hr) (hholding k' ▸ hr')
  case references =>
    have hcounts : t.countsOn n = s.countsOn n := by rw [State.countsOn, hrecords]; rfl
    rw [hcounts, ← h.references n]
    by_cases hn : (s.cell n).isShared = true ∨ (t.cell n).isShared = true
    · rw [State.references, (hshared n hn).1]
      rfl
    · obtain ⟨hs, ht⟩ := not_or.mp hn
      rw [State.references_of_not_shared (by simpa using ht), State.references_of_not_shared (by simpa using hs)]
  case shared =>
    refine h.shared n r ?_
    rw [← hr]
    exact ((hstate n (Cell.isShared_iff.mpr ⟨r, hr⟩)).1).symm
  case owned => rw [howned, t.clientCells_length]
  case held => rw [hheld, h.held, hrecords]
  case value =>
    rw [(hstate n hn).2, (hstate n' hn').2] at hv
    exact h.oneValue n n' (hback n hn) (hback n' hn') hmap hv

/-- A cell that belongs to no client: FREE, FIXED or COOLING (R6). -/
def CellState.isIdle : CellState → Bool
  | .free | .fixed | .cooling _ => true
  | .owned _ | .shared _ => false

theorem Cell.isShared_of_isIdle {x : Cell} (h : x.state.isIdle = true) : x.isShared = false := by
  unfold Cell.isShared
  cases hx : x.state <;> simp [hx, CellState.isIdle] at h ⊢

theorem CellState.ne_owned_of_isIdle {x : CellState} (h : x.isIdle = true) (c : ClientNo) : x ≠ .owned c := by
  rintro rfl
  cases h

theorem isIdle_releasedState (setting : Nat) : (releasedState setting).isIdle = true := by
  unfold releasedState
  split <;> rfl

/-- Nothing of a cell that the accounts read changes: its state and, where it is SHARED, its working value; or it belongs to no
client before or after. -/
def Cell.SameAccount (x y : Cell) : Prop :=
  (y.state = x.state ∧ (x.isShared = true → y.working = x.working)) ∨ (x.state.isIdle = true ∧ y.state.isIdle = true)

/-- The laws where no cell changes hands and every session keeps its map, its counts and its order. -/
theorem LedgerHolds.of_sameAccounts (h : LedgerHolds s) (hrecords : t.holdings = s.holdings)
    (hcells : ∀ n, (s.cell n).SameAccount (t.cell n))
    (hmap : ∀ c, (t.session c).state.map? = (s.session c).state.map? ∨
      (s.session c).owned = 0 ∧ (s.session c).held = 0)
    (howned : ∀ c, (t.session c).owned = (s.session c).owned) (hheld : ∀ c, (t.session c).held = (s.session c).held)
    (horder : ∀ c, (t.session c).InOrder) : LedgerHolds t := by
  have hown (n : CellNo) (c : ClientNo) : (t.cell n).state = .owned c ↔ (s.cell n).state = .owned c := by
    obtain ⟨hstate, -⟩ | ⟨hs, ht⟩ := hcells n
    · rw [hstate]
    · simp [CellState.ne_owned_of_isIdle hs, CellState.ne_owned_of_isIdle ht]
  refine h.of_records hrecords (fun n hn => ?_) (fun n c hn => ?_) (fun k r hr => ?_) (fun c => ?_) hheld horder
  · obtain ⟨hstate, hvalue⟩ | ⟨hs, ht⟩ := hcells n
    · refine ⟨hstate, hvalue ?_⟩
      simpa [Cell.isShared, hstate] using hn
    · simp [Cell.isShared_of_isIdle hs, Cell.isShared_of_isIdle ht] at hn
  · rw [hown] at hn
    obtain hmap | ⟨hnone, -⟩ := hmap c
    · rw [hmap]
      exact h.owner n c hn
    · rw [h.owned_sum, Finset.sum_eq_zero_iff] at hnone
      have hcell := hnone n (Finset.mem_univ n)
      simp [State.cellOwnedBy_iff.mpr hn] at hcell
  · obtain hmap | ⟨-, hnone⟩ := hmap r.client
    · rw [hmap]
      exact (h.record k r hr).2.2
    · rw [h.held_sum, Finset.sum_eq_zero_iff] at hnone
      have hslot := hnone k (Finset.mem_univ k)
      simp [State.recordOf_iff.mpr ⟨r, hr, rfl⟩] at hslot
  · rw [howned, h.owned_sum]
    refine Finset.sum_congr rfl fun n _ => congrArg Bool.toNat ?_
    rw [Bool.eq_iff_iff, State.cellOwnedBy_iff, State.cellOwnedBy_iff, hown]

/-- The laws where the records and the sessions are unchanged, and no cell changes hands. -/
theorem LedgerHolds.of_cells (h : LedgerHolds s) (hrecords : t.holdings = s.holdings) (hsessions : t.sessions = s.sessions)
    (hcells : ∀ n, (s.cell n).SameAccount (t.cell n)) : LedgerHolds t := by
  have hsession (c : ClientNo) : t.session c = s.session c := by rw [State.session, hsessions]; rfl
  exact h.of_sameAccounts hrecords hcells (fun c => .inl (by rw [hsession])) (fun c => by rw [hsession])
    (fun c => by rw [hsession]) fun c => hsession c ▸ h.inOrder c

/-- The laws read the cells, the records and the sessions alone. -/
theorem LedgerHolds.congr (h : LedgerHolds s) (hcells : t.cells = s.cells) (hrecords : t.holdings = s.holdings)
    (hsessions : t.sessions = s.sessions) : LedgerHolds t := by
  refine h.of_cells hrecords hsessions fun n => ?_
  have hcell : t.cell n = s.cell n := by rw [State.cell, hcells]; rfl
  exact .inl ⟨by rw [hcell], fun _ => by rw [hcell]⟩

/-- The laws where one session changes and keeps its counts: it keeps its map, or its client owns and holds nothing. -/
theorem LedgerHolds.setSession (h : LedgerHolds s) {x : Session}
    (hmap : x.state.map? = (s.session c).state.map? ∨ (s.session c).owned = 0 ∧ (s.session c).held = 0)
    (howned : x.owned = (s.session c).owned) (hheld : x.held = (s.session c).held) (horder : x.InOrder) :
    LedgerHolds (s.setSession c x) := by
  have hother (d : ClientNo) (hd : d ≠ c) : (s.setSession c x).session d = s.session d := by
    rw [State.session_setSession, if_neg hd]
  have hself : (s.setSession c x).session c = x := by rw [State.session_setSession, if_pos rfl]
  refine h.of_sameAccounts rfl (fun n => .inl ⟨rfl, fun _ => rfl⟩) (fun d => ?_) (fun d => ?_) (fun d => ?_) fun d => ?_
  all_goals obtain rfl | hd := eq_or_ne d c
  · exact hself.symm ▸ hmap
  · exact .inl (by rw [hother d hd])
  · exact hself.symm ▸ howned
  · rw [hother d hd]
  · exact hself.symm ▸ hheld
  · rw [hother d hd]
  · exact hself.symm ▸ horder
  · exact hother d hd ▸ h.inOrder d

/-! ### Cells taken and given back -/

/-- The laws where cells of the client `c` change hands: each was its own or belonged to no client, and so afterwards. -/
theorem LedgerHolds.recount_cells (h : LedgerHolds s) {p : CellNo → Bool} (hrecords : t.holdings = s.holdings)
    (hcells : ∀ n, p n = false → t.cell n = s.cell n)
    (hbefore : ∀ n, p n = true → (s.cell n).state.isIdle = true ∨ (s.cell n).state = .owned c)
    (hafter : ∀ n, p n = true → (t.cell n).state.isIdle = true ∨
      (t.cell n).state = .owned c ∧ (s.session c).state.map? = some (mapOf n))
    {owned : Nat} (hsession : t.session c = (s.session c).recount owned (s.session c).held)
    (hsessions : ∀ d, d ≠ c → t.session d = s.session d) (hquota : owned + (s.session c).held ≤ (s.session c).quota)
    (howned : owned = ∑ n, (t.cellOwnedBy c n).toNat) : LedgerHolds t := by
  have hstate (d : ClientNo) : (t.session d).state = (s.session d).state := by
    by_cases hd : d = c
    · rw [hd, hsession, Session.recount_state]
    · rw [hsessions d hd]
  have hunshared (n : CellNo) (hp : p n = true) : (s.cell n).isShared = false ∧ (t.cell n).isShared = false := by
    constructor
    · obtain hidle | hown := hbefore n hp
      · exact Cell.isShared_of_isIdle hidle
      · simp [Cell.isShared, hown]
    · obtain hidle | ⟨hown, -⟩ := hafter n hp
      · exact Cell.isShared_of_isIdle hidle
      · simp [Cell.isShared, hown]
  refine h.of_records hrecords (fun n hn => ?_) (fun n d hn => ?_) (fun k r hr => ?_) (fun d => ?_) (fun d => ?_) fun d => ?_
  · cases hp : p n with
    | true => simp [hunshared n hp] at hn
    | false => rw [hcells n hp]; exact ⟨rfl, rfl⟩
  · rw [hstate]
    cases hp : p n with
    | true =>
      obtain hidle | ⟨hown, hmap⟩ := hafter n hp
      · exact absurd hn (CellState.ne_owned_of_isIdle hidle d)
      · rw [hown] at hn
        cases hn
        exact hmap
    | false =>
      rw [hcells n hp] at hn
      exact h.owner n d hn
  · rw [hstate]
    exact (h.record k r hr).2.2
  · by_cases hd : d = c
    · rw [hd, hsession]
      exact howned
    · rw [hsessions d hd, h.owned_sum]
      refine Finset.sum_congr rfl fun n _ => congrArg Bool.toNat ?_
      rw [Bool.eq_iff_iff, State.cellOwnedBy_iff, State.cellOwnedBy_iff]
      cases hp : p n with
      | true =>
        have hs : (s.cell n).state ≠ .owned d := by
          obtain hidle | hown := hbefore n hp
          · exact CellState.ne_owned_of_isIdle hidle d
          · simp [hown, Ne.symm hd]
        have ht : (t.cell n).state ≠ .owned d := by
          obtain hidle | ⟨hown, -⟩ := hafter n hp
          · exact CellState.ne_owned_of_isIdle hidle d
          · simp [hown, Ne.symm hd]
        simp [hs, ht]
      | false => rw [hcells n hp]
  · by_cases hd : d = c
    · rw [hd, hsession]
      rfl
    · rw [hsessions d hd]
  · by_cases hd : d = c
    · rw [hd, hsession]
      exact (h.inOrder c).recount hquota
    · rw [hsessions d hd]
      exact h.inOrder d

/-- Cells given back (R51, R53, R123). -/
theorem LedgerHolds.giveBack (h : LedgerHolds s) {p : CellNo → Bool} {count : Nat}
    (howned : ∀ n, p n = true → (s.cell n).state = .owned c) (hcount : ∑ n, (p n).toNat = count) :
    LedgerHolds (s.giveBack c p count) := by
  subst hcount
  have hcell (n : CellNo) : (s.giveBack c p (∑ n, (p n).toNat)).cell n =
      if p n then (s.cell n).become (releasedState s.cooling) else s.cell n := by
    rw [State.giveBack, State.cell_setCounts, State.cell_release]
  have hsum : (s.session c).owned = ∑ n, ((s.giveBack c p (∑ n, (p n).toNat)).cellOwnedBy c n).toNat + ∑ n, (p n).toNat := by
    rw [h.owned_sum, ← Finset.sum_add_distrib]
    refine Finset.sum_congr rfl fun n _ => ?_
    cases hp : p n with
    | true =>
      have hafter : (s.giveBack c p (∑ n, (p n).toNat)).cellOwnedBy c n = false := by
        rw [State.cellOwnedBy, hcell, hp, if_pos rfl]
        exact decide_eq_false (CellState.ne_owned_of_isIdle (isIdle_releasedState _) c)
      rw [State.cellOwnedBy_iff.mpr (howned n hp), hafter]
      rfl
    | false =>
      have hsame : (s.giveBack c p (∑ n, (p n).toNat)).cellOwnedBy c n = s.cellOwnedBy c n := by
        rw [State.cellOwnedBy, hcell, hp]
        rfl
      rw [hsame]
      rfl
  have hquota := h.quota c
  unfold Session.charge at hquota
  refine h.recount_cells (p := p) (c := c) (owned := (s.session c).owned - ∑ n, (p n).toNat) (by simp [State.giveBack])
    (fun n hp => by rw [hcell, hp]; rfl) (fun n hp => .inr (howned n hp)) (fun n hp => .inl ?_) ?_ (fun d hd => ?_)
    (by omega) (by omega)
  · rw [hcell, hp, if_pos rfl]
    exact isIdle_releasedState _
  · rw [State.giveBack, State.session_setCounts, if_pos rfl, State.session_release]
  · rw [State.giveBack, State.session_setCounts, if_neg hd, State.session_release]

/-- A run taken (R43). -/
theorem LedgerHolds.takeRun (h : LedgerHolds s) {first count : Nat} (hmap : (s.session c).state.map? = some m)
    (hquota : (s.session c).charge + count ≤ (s.session c).quota) (hinside : first + count ≤ 256)
    (hfree : ∀ n, inRun m first count n = true → (s.cell n).state = .free) :
    LedgerHolds (Machine.takeRun c m first count s) := by
  have hsum : (s.session c).owned + count =
      ∑ n, ((Machine.takeRun c m first count s).cellOwnedBy c n).toNat := by
    conv_lhs => rw [h.owned_sum, ← sum_toNat_inRun (m := m) hinside, ← Finset.sum_add_distrib]
    refine Finset.sum_congr rfl fun n _ => ?_
    rw [State.cellOwnedBy, State.cellOwnedBy, cell_takeRun]
    cases hp : inRun m first count n with
    | true => simp [hfree n hp, Cell.become]
    | false => simp
  unfold Session.charge at hquota
  refine h.recount_cells (p := inRun m first count) (c := c) (owned := (s.session c).owned + count)
    (by simp [Machine.takeRun]) (fun n hp => by rw [cell_takeRun, hp]; rfl) (fun n hp => .inl (by rw [hfree n hp]; rfl))
    (fun n hp => .inr ⟨by rw [cell_takeRun, hp]; rfl, ?_⟩) (by rw [session_takeRun, if_pos rfl])
    (fun d hd => by rw [session_takeRun, if_neg hd]) (by omega) hsum
  rw [hmap, (inRun_eq_true.mp hp).1]

end Sys2Proof.Machine
end

section
/-! Proofs on the accounts, continued: one record that changes with its cell and its client's counts, what each effect and each row
leaves of the accounts, and the step (O6). -/

namespace Sys2Proof.Machine

variable {s t u : State} {c : ClientNo} {m : MapNo} {n : CellNo} {k : SlotNo} {cmd : Command}

/-! ### One record -/

/-- From `s` to `t` one cell, one slot and the counts of one client change: the slot holds a record of the client on the cell or
none, before and after. -/
structure ChangesOne (s t : State) (c : ClientNo) (n : CellNo) (k : SlotNo) (owned held : Nat) : Prop where
  cells : ∀ j, j ≠ n → t.cell j = s.cell j
  slots : ∀ j, j ≠ k → t.holding j = s.holding j
  sessions : ∀ d, d ≠ c → t.session d = s.session d
  session : t.session c = (s.session c).recount owned held
  before : ∀ r, s.holding k = some r → r.client = c ∧ r.cell = n
  after : ∀ r, t.holding k = some r → r.client = c ∧ r.cell = n

theorem ChangesOne.state (h : ChangesOne s t c n k owned held) (d : ClientNo) :
    (t.session d).state = (s.session d).state := by
  by_cases hd : d = c
  · rw [hd, h.session, Session.recount_state]
  · rw [h.sessions d hd]

/-- The client's records are those of the other slots and that of the slot. -/
theorem ChangesOne.recordOf (h : ChangesOne s t c n k owned held) {d : ClientNo} (hd : d ≠ c) (j : SlotNo) :
    t.recordOf d j = s.recordOf d j := by
  by_cases hj : j = k
  · subst hj
    have hs : s.recordOf d j = false := Bool.eq_false_iff.mpr fun hr => by
      obtain ⟨r, hslot, rfl⟩ := State.recordOf_iff.mp hr
      exact hd (h.before r hslot).1
    have ht : t.recordOf d j = false := Bool.eq_false_iff.mpr fun hr => by
      obtain ⟨r, hslot, rfl⟩ := State.recordOf_iff.mp hr
      exact hd (h.after r hslot).1
    rw [hs, ht]
  · rw [State.recordOf, h.slots j hj]
    rfl

/-- The records count the same on every other cell. -/
theorem ChangesOne.countAt (h : ChangesOne s t c n k owned held) {i : CellNo} (hi : i ≠ n) (j : SlotNo) :
    t.countAt i j = s.countAt i j := by
  by_cases hj : j = k
  · subst hj
    have hs : s.countAt i j = 0 := by
      unfold State.countAt
      split
      next => rfl
      next r hr => rw [if_neg fun heq => hi (heq.symm.trans (h.before r hr).2)]
    have ht : t.countAt i j = 0 := by
      unfold State.countAt
      split
      next => rfl
      next r hr => rw [if_neg fun heq => hi (heq.symm.trans (h.after r hr).2)]
    rw [hs, ht]
  · rw [State.countAt, h.slots j hj]
    rfl

/-- The laws after a change of one record, with its cell and its client's counts, where the sums come out. -/
theorem LedgerHolds.of_one (hl : LedgerHolds s) {owned held : Nat} (h : ChangesOne s t c n k owned held)
    (hmap : (s.session c).state.map? = some (mapOf n)) (hquota : owned + held ≤ (s.session c).quota)
    (hbefore : ∀ d, (s.cell n).state = .owned d → d = c) (hafter : ∀ d, (t.cell n).state ≠ .owned d)
    (howned : owned + (s.cellOwnedBy c n).toNat = (s.session c).owned)
    (hrecord : ∀ r, t.holding k = some r → 1 ≤ r.count ∧ r.count ≤ Config.holdLimit)
    (hother : ∀ j r, j ≠ k → s.holding j = some r → r.client = c → r.cell ≠ n)
    (hheld : held + (s.recordOf c k).toNat = (s.session c).held + (t.recordOf c k).toNat)
    (hreferences : t.references n + s.countAt n k = s.references n + t.countAt n k)
    (hshared : ∀ r, (t.cell n).state = .shared r → 1 ≤ r)
    (hvalue : (t.cell n).isShared = true → ∀ j, j ≠ n → (s.cell j).isShared = true → mapOf j = mapOf n →
      (s.cell j).working ≠ (t.cell n).working) : LedgerHolds t := by
  have hnotOwned (d : ClientNo) : t.cellOwnedBy d n = false := decide_eq_false (hafter d)
  have horder : (t.session c).InOrder := h.session ▸ (hl.inOrder c).recount hquota
  refine ⟨fun j d hj => ?owner, fun j r hr => ?record, fun j j' r r' hr hr' hclient hcell => ?oneRecord,
    fun j => ?references, fun j r hr => ?shared, fun d => ?owned, fun d => ?held, fun d => ?quota, fun d => ?armed,
    fun j j' hj hj' hjmap hv => ?value⟩
  case owner =>
    rw [h.state]
    by_cases hn : j = n
    · exact absurd (hn ▸ hj) (hafter d)
    · exact hl.owner j d (h.cells j hn ▸ hj)
  case record =>
    rw [h.state]
    by_cases hk : j = k
    · subst hk
      obtain ⟨rfl, rfl⟩ := h.after r hr
      exact ⟨(hrecord r hr).1, (hrecord r hr).2, hmap⟩
    · exact hl.record j r (h.slots j hk ▸ hr)
  case oneRecord =>
    by_cases hk : j = k <;> by_cases hk' : j' = k
    · rw [hk, hk']
    · subst hk
      obtain ⟨hc, hn⟩ := h.after r hr
      exact absurd (hcell.symm.trans hn) (hother j' r' hk' (h.slots j' hk' ▸ hr') (hclient.symm.trans hc))
    · subst hk'
      obtain ⟨hc, hn⟩ := h.after r' hr'
      exact absurd (hcell.trans hn) (hother j r hk (h.slots j hk ▸ hr) (hclient.trans hc))
    · exact hl.oneRecord j j' r r' (h.slots j hk ▸ hr) (h.slots j' hk' ▸ hr') hclient hcell
  case references =>
    rw [t.countsOn_eq]
    by_cases hn : j = n
    · subst hn
      have hsum := sum_add_of_eq_off (f := t.countAt j) (g := s.countAt j) k fun i hi => by
        rw [State.countAt, h.slots i hi]
        rfl
      rw [← hl.references_sum] at hsum
      omega
    · rw [Finset.sum_congr rfl fun i _ => h.countAt hn i, ← hl.references_sum, State.references, h.cells j hn]
      rfl
  case shared =>
    by_cases hn : j = n
    · exact hshared r (hn ▸ hr)
    · exact hl.shared j r (h.cells j hn ▸ hr)
  case owned =>
    rw [t.clientCells_length]
    have hsum := sum_add_of_eq_off (f := fun i => (t.cellOwnedBy d i).toNat) (g := fun i => (s.cellOwnedBy d i).toNat) n
      fun i hi => by rw [State.cellOwnedBy, h.cells i hi]; rfl
    simp only [hnotOwned, Bool.toNat_false, ← hl.owned_sum] at hsum
    by_cases hd : d = c
    · subst hd
      have hnew : (t.session d).owned = owned := by rw [h.session]; rfl
      omega
    · have hnot : s.cellOwnedBy d n = false := decide_eq_false fun hs => hd (hbefore d hs)
      rw [h.sessions d hd]
      simpa [hnot] using hsum.symm
  case held =>
    rw [t.clientRecords_sum]
    by_cases hd : d = c
    · subst hd
      have hsum := sum_add_of_eq_off (f := fun i => (t.recordOf d i).toNat) (g := fun i => (s.recordOf d i).toNat) k
        fun i hi => by rw [State.recordOf, h.slots i hi]; rfl
      simp only [← hl.held_sum] at hsum
      have hnew : (t.session d).held = held := by rw [h.session]; rfl
      omega
    · rw [h.sessions d hd, hl.held_sum]
      exact Finset.sum_congr rfl fun i _ => by rw [h.recordOf hd]
  case quota =>
    by_cases hd : d = c
    · exact hd ▸ horder.quota
    · rw [h.sessions d hd]
      exact hl.quota d
  case armed =>
    by_cases hd : d = c
    · exact hd ▸ horder.armed
    · rw [h.sessions d hd]
      exact hl.armed d
  case value =>
    by_cases hn : j = n <;> by_cases hn' : j' = n
    · rw [hn, hn']
    · subst hn
      rw [h.cells j' hn'] at hj' hv
      exact absurd hv.symm (hvalue hj j' hn' hj' hjmap.symm)
    · subst hn'
      rw [h.cells j hn] at hj hv
      exact absurd hv (hvalue hj' j hn hj hjmap)
    · rw [h.cells j hn] at hj hv
      rw [h.cells j' hn'] at hj' hv
      exact hl.oneValue j j' hj hj' hjmap hv

/-! ### References and records (R23, R24, R27, R34, R37) -/

theorem State.findHolding_eq_none :
    s.findHolding c n = none ↔ ∀ j r, s.holding j = some r → r.client = c → r.cell ≠ n := by
  unfold State.findHolding
  rw [lowest_eq_none]
  change (∀ j, records c n (s.holding j) = false) ↔ _
  simp only [Bool.eq_false_iff, Ne, records_eq_true, not_exists, not_and]

/-- A client has no second record on a cell (R58). -/
theorem LedgerHolds.no_other_record (h : LedgerHolds s) {r : Holding} (hr : s.holding k = some r) (j : SlotNo)
    (r' : Holding) (hj : j ≠ k) (hr' : s.holding j = some r') (hclient : r'.client = r.client) : r'.cell ≠ r.cell :=
  fun hcell => hj (h.oneRecord j k r' r hr' hr hclient hcell)

theorem State.recordCount_of_holding {r : Holding} (h : s.holding k = some r) : s.recordCount k = r.count := by
  rw [State.recordCount, h]

theorem LedgerHolds.held_pos (h : LedgerHolds s) (hr : s.recordOf c k = true) : 1 ≤ (s.session c).held := by
  rw [h.held_sum]
  have hle := Finset.single_le_sum (f := fun j => (s.recordOf c j).toNat) (fun _ _ => Nat.zero_le _) (Finset.mem_univ k)
  simpa [hr] using hle

theorem LedgerHolds.owned_pos (h : LedgerHolds s) (ho : (s.cell n).state = .owned c) : 1 ≤ (s.session c).owned := by
  rw [h.owned_sum]
  have hle := Finset.single_le_sum (f := fun j => (s.cellOwnedBy c j).toNat) (fun _ _ => Nat.zero_le _) (Finset.mem_univ n)
  simpa [State.cellOwnedBy_iff.mpr ho] using hle

/-- A SHARED cell that keeps its working value keeps the only cell of that value (R20). -/
theorem LedgerHolds.value_of_shared (h : LedgerHolds s) (hshared : (s.cell n).isShared = true) (j : CellNo) (hj : j ≠ n)
    (hs : (s.cell j).isShared = true) (hmap : mapOf j = mapOf n) : (s.cell j).working ≠ (s.cell n).working :=
  fun hv => hj (h.oneValue j n hs hshared hmap hv)

theorem State.cellOwnedBy_of_shared (h : (s.cell n).isShared = true) : s.cellOwnedBy c n = false := by
  obtain ⟨r, hr⟩ := Cell.isShared_iff.mp h
  simp [State.cellOwnedBy, hr]

theorem State.recordOf_of_none (h : s.holding k = none) : s.recordOf c k = false := by
  rw [State.recordOf, h]
  rfl

/-- One more on a client's record (R23). -/
theorem LedgerHolds.addsReference (h : LedgerHolds s) (hshared : (s.cell n).isShared = true)
    (hfound : s.findHolding c n = some k) (hroom : s.recordCount k < Config.holdLimit) :
    LedgerHolds ((s.setHolding k (some ⟨c, n, s.recordCount k + 1⟩)).addReference n) := by
  obtain ⟨r, hr, rfl, rfl⟩ := State.holding_of_findHolding hfound
  obtain ⟨refs, hrefs⟩ := Cell.isShared_iff.mp hshared
  have hcount := State.recordCount_of_holding hr
  generalize ht : (s.setHolding k (some ⟨r.client, r.cell, s.recordCount k + 1⟩)).addReference r.cell = t
  have hnew : t.holding k = some ⟨r.client, r.cell, s.recordCount k + 1⟩ := by rw [← ht]; simp
  have hcell : t.cell r.cell = (s.cell r.cell).become (.shared (s.references r.cell + 1)) := by
    rw [← ht, State.cell_addReference, if_pos rfl]
    rfl
  have hsession (d : ClientNo) : t.session d = s.session d := by rw [← ht]; rfl
  have hchange : ChangesOne s t r.client r.cell k (s.session r.client).owned (s.session r.client).held :=
    { cells := fun j hj => by rw [← ht, State.cell_addReference, if_neg hj, State.cell_setHolding]
      slots := fun j hj => by rw [← ht, State.holding_addReference, State.holding_setHolding_ne _ _ _ _ hj]
      sessions := fun d _ => hsession d
      session := by rw [Session.recount_self, hsession]
      before := fun r' hr' => by rw [hr] at hr'; cases hr'; exact ⟨rfl, rfl⟩
      after := fun r' hr' => by rw [hnew] at hr'; cases hr'; exact ⟨rfl, rfl⟩ }
  refine h.of_one hchange (h.record k r hr).2.2 (h.quota r.client) (fun d hd => by simp [hrefs] at hd) (fun d => ?_) ?_
    (fun r' hr' => ?_) (h.no_other_record hr) ?_ ?_ (fun r' hr' => ?_) fun _ j hj hs hmap => ?_
  · simp [hcell, Cell.become]
  · rw [State.cellOwnedBy_of_shared hshared]
    rfl
  · rw [hnew] at hr'
    cases hr'
    exact ⟨Nat.le_add_left 1 _, hroom⟩
  · rw [State.recordOf_iff.mpr ⟨r, hr, rfl⟩, State.recordOf_iff.mpr ⟨_, hnew, rfl⟩]
  · rw [State.countAt_of_holding hr, State.countAt_of_holding hnew, if_pos rfl, if_pos rfl, hcount, State.references, hcell]
    change s.references r.cell + 1 + r.count = s.references r.cell + (r.count + 1)
    omega
  · rw [hcell] at hr'
    cases hr'
    exact Nat.le_add_left 1 _
  · rw [hcell]
    exact h.value_of_shared hshared j hj hs hmap

/-- A record of count 1 placed on a cell that was made SHARED with one reference, or that has one reference more. -/
theorem LedgerHolds.placesRecord (h : LedgerHolds s) (hmap : (s.session c).state.map? = some (mapOf n))
    (hslot : s.emptySlot = some k) (hnone : ∀ j r, s.holding j = some r → r.client = c → r.cell ≠ n)
    (hbefore : ∀ d, (s.cell n).state = .owned d → d = c) {owned : Nat}
    (howned : owned + (s.cellOwnedBy c n).toNat = (s.session c).owned)
    (hquota : owned + ((s.session c).held + 1) ≤ (s.session c).quota)
    (hcells : ∀ j, j ≠ n → t.cell j = s.cell j) (hcell : (t.cell n).state = .shared (s.references n + 1))
    (hvalue : ∀ j, j ≠ n → (s.cell j).isShared = true → mapOf j = mapOf n → (s.cell j).working ≠ (t.cell n).working)
    (hholding : ∀ j, t.holding j = if j = k then some ⟨c, n, 1⟩ else s.holding j)
    (hsession : ∀ d, t.session d =
      if d = c then (s.session c).recount owned ((s.session c).held + 1) else s.session d) : LedgerHolds t := by
  have hempty := State.holding_of_emptySlot hslot
  have hnew : t.holding k = some ⟨c, n, 1⟩ := by rw [hholding, if_pos rfl]
  have hchange : ChangesOne s t c n k owned ((s.session c).held + 1) :=
    { cells := hcells
      slots := fun j hj => by rw [hholding, if_neg hj]
      sessions := fun d hd => by rw [hsession, if_neg hd]
      session := by rw [hsession, if_pos rfl]
      before := fun r hr => by rw [hempty] at hr; cases hr
      after := fun r hr => by rw [hnew] at hr; cases hr; exact ⟨rfl, rfl⟩ }
  refine h.of_one hchange hmap hquota hbefore (fun d => by simp [hcell]) howned (fun r hr => ?_)
    (fun j r _ => hnone j r) ?_ ?_ (fun r hr => ?_) fun _ => hvalue
  · rw [hnew] at hr
    cases hr
    exact ⟨le_refl 1, Nat.le_of_ble_eq_true rfl⟩
  · rw [State.recordOf_of_none hempty, State.recordOf_iff.mpr ⟨_, hnew, rfl⟩]
    rfl
  · rw [State.countAt_of_none hempty, State.countAt_of_holding hnew, if_pos rfl, State.references_of_shared hcell,
      Nat.add_zero]
  · rw [hcell] at hr
    cases hr
    exact Nat.le_add_left 1 _

/-- A record whose count falls by `j` with the references of its cell, and which leaves its slot where nothing of it is left. -/
theorem LedgerHolds.dropsCount (h : LedgerHolds s) {r : Holding} (hr : s.holding k = some r) {j : Nat} {held : Nat} {x : Option Holding}
    (hx : (x = none ∧ j = r.count ∧ held + 1 = (s.session r.client).held) ∨
      (j < r.count ∧ x = some ⟨r.client, r.cell, r.count - j⟩ ∧ held = (s.session r.client).held)) :
    LedgerHolds (((s.setHolding k x).dropReferences r.cell j).setCounts r.client (s.session r.client).owned held) := by
  have hshared := h.shared_of_holding hr
  obtain ⟨refs, hrefs⟩ := Cell.isShared_iff.mp hshared
  obtain ⟨hlo, hhi, hmap⟩ := h.record k r hr
  have hle := h.count_le r.cell k
  have hquota := h.quota r.client
  unfold Session.charge at hquota
  rw [State.countAt_of_holding hr, if_pos rfl] at hle
  have hjle : j ≤ r.count := by omega
  generalize ht : ((s.setHolding k x).dropReferences r.cell j).setCounts r.client (s.session r.client).owned held = t
  have hnew : t.holding k = x := by rw [← ht]; simp
  have hcell : t.cell r.cell = (s.cell r.cell).become
      (if s.references r.cell ≤ j then releasedState s.cooling else .shared (s.references r.cell - j)) := by
    rw [← ht, State.cell_setCounts, State.cell_dropReferences, if_pos rfl]
    rfl
  have hafter : t.references r.cell = s.references r.cell - j := by
    rw [State.references, hcell]
    split
    next hall => rw [Nat.sub_eq_zero_of_le hall]; exact references_releasedState _
    next => rfl
  have hchange : ChangesOne s t r.client r.cell k (s.session r.client).owned held :=
    { cells := fun i hi => by rw [← ht, State.cell_setCounts, State.cell_dropReferences, if_neg hi, State.cell_setHolding]
      slots := fun i hi => by rw [← ht]; simp [hi]
      sessions := fun d hd => by rw [← ht, State.session_setCounts, if_neg hd]; simp
      session := by rw [← ht, State.session_setCounts, if_pos rfl]; simp
      before := fun r' hr' => by rw [hr] at hr'; cases hr'; exact ⟨rfl, rfl⟩
      after := fun r' hr' => by
        rw [hnew] at hr'
        obtain ⟨hx, -⟩ | ⟨-, hx, -⟩ := hx
        · rw [hx] at hr'
          cases hr'
        · rw [hx] at hr'
          cases hr'
          exact ⟨rfl, rfl⟩ }
  have hstate : (t.cell r.cell).state =
      if s.references r.cell ≤ j then releasedState s.cooling else .shared (s.references r.cell - j) := by rw [hcell]; rfl
  refine h.of_one hchange hmap (by omega) (fun d hd => by simp [hrefs] at hd) (fun d => ?_) ?_ (fun r' hr' => ?_)
    (h.no_other_record hr) ?_ ?_ (fun r' hr' => ?_) fun hs i hi his hmap' => ?_
  · rw [hstate]
    split
    next => exact CellState.ne_owned_of_isIdle (isIdle_releasedState _) d
    next => simp
  · rw [State.cellOwnedBy_of_shared hshared]
    rfl
  · rw [hnew] at hr'
    obtain ⟨hx, -⟩ | ⟨hlt, hx, -⟩ := hx
    · rw [hx] at hr'
      cases hr'
    · rw [hx] at hr'
      cases hr'
      exact ⟨Nat.sub_pos_of_lt hlt, (Nat.sub_le _ _).trans hhi⟩
  · rw [State.recordOf_iff.mpr ⟨r, hr, rfl⟩]
    obtain ⟨hx, -, hheld⟩ | ⟨-, hx, hheld⟩ := hx
    · rw [State.recordOf_of_none (hnew.trans hx)]
      exact hheld
    · rw [State.recordOf_iff.mpr ⟨_, hnew.trans hx, rfl⟩, hheld]
  · rw [State.countAt_of_holding hr, if_pos rfl, hafter]
    obtain ⟨hx, hj, -⟩ | ⟨hlt, hx, -⟩ := hx
    · rw [State.countAt_of_none (hnew.trans hx)]
      omega
    · rw [State.countAt_of_holding (hnew.trans hx), if_pos rfl]
      dsimp only
      omega
  · rw [hstate] at hr'
    split at hr'
    next => exact absurd hr' (by unfold releasedState; split <;> simp)
    next => cases hr'; omega
  · rw [hcell]
    exact h.value_of_shared hshared i hi his hmap'

/-- A record taken out of its slot (R34, R61, R123). -/
theorem LedgerHolds.removeRecord (h : LedgerHolds s) {r : Holding} (hr : s.holding k = some r) :
    LedgerHolds (s.removeRecord r.client k) := by
  rw [s.removeRecord_eq hr]
  have hheld := h.held_pos (State.recordOf_iff.mpr ⟨r, hr, rfl⟩)
  exact h.dropsCount hr (.inl ⟨rfl, rfl, Nat.sub_add_cancel hheld⟩)

theorem LedgerHolds.dropsReference (h : LedgerHolds s) (hfound : s.findHolding c n = some k)
    (hmore : 1 < s.recordCount k) :
    LedgerHolds ((s.setHolding k (some ⟨c, n, s.recordCount k - 1⟩)).dropReferences n 1) := by
  obtain ⟨r, hr, rfl, rfl⟩ := State.holding_of_findHolding hfound
  rw [State.recordCount_of_holding hr] at hmore ⊢
  have hdrop := h.dropsCount hr (.inr ⟨hmore, rfl, rfl⟩)
  refine hdrop.congr (by simp) (by simp) (State.sessions_ext _ fun d => ?_)
  rw [State.session_setCounts]
  split
  next hd => subst hd; simp [Session.recount_self]
  next => rfl

/-! ### Every row -/

theorem ClientEffect.ledgerHolds (h : ClientEffect s c m cmd u) (hl : LedgerHolds s)
    (hopen : (s.session c).state.openMap? = some m) : LedgerHolds u := by
  have hbound : (s.session c).state.map? = some m := by
    cases hx : (s.session c).state <;> simp [hx, SessionState.openMap?, SessionState.map?] at hopen ⊢
    exact hopen
  cases h with
  | keeps => exact hl
  | addsReference _ hshared hfound hroom => exact hl.addsReference hshared hfound hroom
  | @makesRecord _ n k _ hmap hshared hnone hquota hslot =>
    obtain ⟨refs, hrefs⟩ := Cell.isShared_iff.mp hshared
    refine hl.placesRecord (hmap ▸ hbound) hslot (State.findHolding_eq_none.mp hnone) (fun d hd => by simp [hrefs] at hd)
      (owned := (s.session c).owned) ?_ ?_ (fun j hj => ?_) ?_ ?_ (fun j => ?_) fun d => ?_
    · rw [State.cellOwnedBy_of_shared hshared]
      rfl
    · exact hquota
    · rw [State.placeRecord, State.cell_setCounts, State.cell_setHolding, State.cell_addReference, if_neg hj]
    · rw [State.placeRecord, State.cell_setCounts, State.cell_setHolding, State.cell_addReference, if_pos rfl]
      rfl
    · rw [State.placeRecord, State.cell_setCounts, State.cell_setHolding, State.cell_addReference, if_pos rfl]
      exact hl.value_of_shared hshared
    · rw [State.holding_placeRecord, State.holding_addReference]
    · rw [State.session_placeRecord, State.session_addReference, State.session_addReference]
  | @makesShared n k v hmap hfree hvalue hquota hslot hroom =>
    have hnone : ∀ j r, s.holding j = some r → r.client = c → r.cell ≠ n := fun j r hr _ heq => by
      have hshared := hl.shared_of_holding hr
      simp [heq, Cell.isShared, hfree] at hshared
    have hcell (j : CellNo) (hj : j ≠ n) :
        ((s.setCell n { s.cell n with state := .shared 1 }).setValue n v none).cell j = s.cell j := by
      rw [State.cell_setValue, if_neg hj, State.cell_setCell_ne _ _ _ _ hj]
    refine hl.placesRecord (hmap ▸ hbound) hslot hnone (fun d hd => by simp [hfree] at hd)
      (owned := (s.session c).owned) ?_ ?_ (fun j hj => ?_) ?_ ?_ (fun j => ?_) fun d => ?_
    · simp [State.cellOwnedBy, hfree]
    · exact hquota
    · rw [State.placeRecord, State.cell_setCounts, State.cell_setHolding, hcell j hj]
    · have hrefs : s.references n = 0 := by simp [State.references, hfree, CellState.referencesField]
      rw [State.placeRecord, State.cell_setCounts, State.cell_setHolding, State.cell_setValue, if_pos rfl, hrefs,
        State.cell_setCell_self]
    · rw [State.placeRecord, State.cell_setCounts, State.cell_setHolding, State.cell_setValue, if_pos rfl]
      exact fun j _ hs hj => hvalue j (hj.trans hmap) hs
    · simp [State.holding_placeRecord]
    · simp [State.session_placeRecord]
  | dropsRecord _ hfound =>
    obtain ⟨r, hr, rfl, -⟩ := State.holding_of_findHolding hfound
    exact hl.removeRecord hr
  | dropsReference _ hfound hmore => exact hl.dropsReference hfound hmore
  | givesBack _ howned hcount => exact hl.giveBack howned hcount
  | @makesPublic n k hmap howned hbatch hvalue hslot =>
    have hnone : ∀ j r, s.holding j = some r → r.client = c → r.cell ≠ n := fun j r hr _ heq => by
      have hshared := hl.shared_of_holding hr
      simp [heq, Cell.isShared, howned] at hshared
    have hpos := hl.owned_pos howned
    have hquota := hl.quota c
    unfold Session.charge at hquota
    refine hl.placesRecord (hmap ▸ hbound) hslot hnone (fun d hd => by rw [howned] at hd; cases hd; rfl)
      (owned := (s.session c).owned - 1) ?_ ?_ (fun j hj => ?_) ?_ ?_ (fun j => ?_) fun d => ?_
    · rw [State.cellOwnedBy_iff.mpr howned]
      exact Nat.sub_add_cancel hpos
    · omega
    · rw [makePublic, State.cell_setCounts, State.cell_setHolding, State.cell_setCell_ne _ _ _ _ hj]
    · have hrefs : s.references n = 0 := by simp [State.references, howned, CellState.referencesField]
      rw [makePublic, State.cell_setCounts, State.cell_setHolding, State.cell_setCell_self, hrefs]
    · rw [makePublic, State.cell_setCounts, State.cell_setHolding, State.cell_setCell_self]
      exact fun j _ hs hj => hvalue j (hj.trans hmap) hs
    · simp [makePublic, State.holding_setHolding]
    · simp [makePublic, State.session_setCounts]
  | takesRun hquota hinside hfree => exact hl.takeRun hbound hquota hinside hfree
  | @stores n v hmap howned hbatch hroom =>
    refine hl.of_cells (by simp) (by simp) fun j => .inl ?_
    rw [State.cell_setValue]
    split
    next hj =>
      subst hj
      exact ⟨rfl, fun hs => by simp [Cell.isShared, howned] at hs⟩
    next => exact ⟨rfl, fun _ => rfl⟩
  | opensBatch | closesBatch =>
    exact hl.setSession (.inl rfl) rfl rfl ⟨hl.quota c, hl.armed c⟩

/-- A client that is bound to no map owns and holds nothing (R6, R58). -/
theorem LedgerHolds.counts_of_closed (h : LedgerHolds s) (hclosed : (s.session c).state.map? = none) :
    (s.session c).owned = 0 ∧ (s.session c).held = 0 := by
  constructor
  · rw [h.owned_sum]
    refine Finset.sum_eq_zero fun n _ => ?_
    have hnot : s.cellOwnedBy c n = false := decide_eq_false fun ho => by
      simpa [hclosed] using h.owner n c ho
    rw [hnot]
    rfl
  · rw [h.held_sum]
    refine Finset.sum_eq_zero fun k _ => ?_
    have hnot : s.recordOf c k = false := Bool.eq_false_iff.mpr fun hk => by
      obtain ⟨r, hr, rfl⟩ := State.recordOf_iff.mp hk
      simpa [hclosed] using (h.record k r hr).2.2
    rw [hnot]
    rfl

/-- A cell that a FIX or its value reaches belongs to no client (R131). -/
theorem LedgerHolds.fixCell (h : LedgerHolds s) {v : Colour} (hstate : (s.cell n).state = .free ∨ (s.cell n).state = .fixed) :
    LedgerHolds (s.fixCell n v) := by
  refine h.of_cells (by simp [State.fixCell]) (by simp [State.fixCell]) fun j => ?_
  rw [State.cell_fixCell]
  split
  next hj =>
    subst hj
    refine .inr ⟨?_, rfl⟩
    obtain hs | hs := hstate <;> rw [hs] <;> rfl
  next => exact .inl ⟨rfl, fun _ => rfl⟩

/-- Taking entries shows working values and changes no account (R85, R90). -/
theorem LedgerHolds.takeEntries (h : LedgerHolds s) (p : Entry → Bool) : LedgerHolds (s.takeEntries p) := by
  refine h.of_cells rfl rfl fun j => .inl ?_
  rw [State.cell_takeEntries]
  split
  next => exact ⟨rfl, fun _ => rfl⟩
  next => exact ⟨rfl, fun _ => rfl⟩

theorem Cell.sameAccount_cool (x : Cell) : x.SameAccount x.cool := by
  unfold Cell.cool
  split
  next k hk =>
    refine .inr ⟨by rw [hk]; rfl, ?_⟩
    dsimp only
    split <;> rfl
  next => exact .inl ⟨rfl, fun _ => rfl⟩

theorem LedgerHolds.countdown (h : LedgerHolds s) : LedgerHolds s.countdown :=
  h.of_cells rfl rfl fun j => by rw [State.cell_countdown]; exact Cell.sameAccount_cool _

theorem LedgerHolds.endCooling (h : LedgerHolds s) (m : MapNo) : LedgerHolds (endCooling m s) := by
  refine h.of_cells rfl rfl fun j => ?_
  rw [Machine.endCooling, State.cell_mapCells]
  split
  next hj =>
    obtain ⟨k, hk⟩ := Cell.isCooling_iff.mp (Bool.and_eq_true_iff.mp hj).2
    exact .inr ⟨by rw [hk]; rfl, rfl⟩
  next => exact .inl ⟨rfl, fun _ => rfl⟩

/-- A cell of a reset map belongs to no client (R134). -/
theorem Cell.isIdle_mapReset (x : Cell) (queued : Bool) : (x.mapReset queued).state.isIdle = true := by
  unfold Cell.mapReset
  dsimp only
  split <;> rfl

theorem state_session_resetMap (s : State) (m : MapNo) (d : ClientNo) :
    ((resetMap m s).session d).state = (s.session d).state := by
  rw [session_resetMap]
  split <;> rfl

/-- A record that stays names a cell of another map (R134). -/
theorem holding_resetMap_iff (s : State) (m : MapNo) (k : SlotNo) (r : Holding) :
    (resetMap m s).holding k = some r ↔ s.holding k = some r ∧ mapOf r.cell ≠ m := by
  rw [holding_resetMap, Option.filter_eq_some_iff]
  simp [Holding.isOf]

/-- A cell that is owned or SHARED after the reset of a map lies in another map, and is as it was (R134). -/
theorem map_ne_of_resetMap {s : State} (hbusy : ((resetMap m s).cell n).state.isIdle = false) :
    mapOf n ≠ m ∧ (resetMap m s).cell n = s.cell n := by
  rw [cell_resetMap] at hbusy ⊢
  split
  next hmap => rw [if_pos hmap, Cell.isIdle_mapReset] at hbusy; cases hbusy
  next hmap => exact ⟨hmap, rfl⟩

theorem Cell.isIdle_of_shared {x : Cell} (h : x.isShared = true) : x.state.isIdle = false := by
  obtain ⟨r, hr⟩ := Cell.isShared_iff.mp h
  rw [hr]
  rfl

theorem LedgerHolds.resetMap (h : LedgerHolds s) (m : MapNo) : LedgerHolds (resetMap m s) where
  owner n d hn := by
    obtain ⟨-, hcell⟩ := map_ne_of_resetMap (s := s) (m := m) (n := n) (by rw [hn]; rfl)
    rw [state_session_resetMap]
    exact h.owner n d (hcell ▸ hn)
  record k r hr := by
    obtain ⟨hr, -⟩ := (holding_resetMap_iff s m k r).mp hr
    rw [state_session_resetMap]
    exact h.record k r hr
  oneRecord k k' r r' hr hr' :=
    h.oneRecord k k' r r' ((holding_resetMap_iff s m k r).mp hr).1 ((holding_resetMap_iff s m k' r').mp hr').1
  references n := by
    rw [State.countsOn_eq]
    by_cases hn : mapOf n = m
    · have hidle : ((Machine.resetMap m s).cell n).state.isIdle = true := by
        rw [cell_resetMap, if_pos hn]
        exact Cell.isIdle_mapReset _ _
      rw [State.references_of_not_shared (Cell.isShared_of_isIdle hidle), eq_comm]
      refine Finset.sum_eq_zero fun k _ => ?_
      unfold State.countAt
      split
      next => rfl
      next r hr =>
        obtain ⟨-, hmap⟩ := (holding_resetMap_iff s m k r).mp hr
        rw [if_neg fun heq : r.cell = n => hmap (heq ▸ hn)]
    · rw [State.references, cell_resetMap, if_neg hn]
      refine (h.references_sum n).trans (Finset.sum_congr rfl fun k _ => ?_)
      unfold State.countAt
      rw [holding_resetMap]
      cases s.holding k with
      | none => rfl
      | some r =>
        by_cases hcell : r.cell = n
        · simp [Option.filter, Holding.isOf, hcell, hn]
        · by_cases hmap : mapOf r.cell = m <;> simp [Option.filter, Holding.isOf, hcell, hmap]
  shared n r hr := by
    obtain ⟨-, hcell⟩ := map_ne_of_resetMap (s := s) (m := m) (n := n) (by rw [hr]; rfl)
    exact h.shared n r (hcell ▸ hr)
  owned d := by
    rw [State.clientCells_length, session_resetMap]
    have hcell (n : CellNo) : (Machine.resetMap m s).cellOwnedBy d n = (s.cellOwnedBy d n && decide (mapOf n ≠ m)) := by
      rw [State.cellOwnedBy, cell_resetMap]
      by_cases hn : mapOf n = m
      · simp [hn, CellState.ne_owned_of_isIdle (Cell.isIdle_mapReset (s.cell n) (s.queued n)) d]
      · simp [hn, State.cellOwnedBy]
    have howner (n : CellNo) (hn : s.cellOwnedBy d n = true) := h.owner n d (State.cellOwnedBy_iff.mp hn)
    split
    next hbound =>
      refine (Finset.sum_eq_zero fun n _ => ?_).symm
      rw [hcell]
      cases hn : s.cellOwnedBy d n with
      | false => rfl
      | true => simp [Option.some.inj ((howner n hn).symm.trans hbound)]
    next hbound =>
      rw [h.owned_sum]
      refine Finset.sum_congr rfl fun n _ => ?_
      rw [hcell]
      cases hn : s.cellOwnedBy d n with
      | false => rfl
      | true =>
        have hmap : mapOf n ≠ m := fun heq => hbound (heq ▸ howner n hn)
        simp [hmap]
  held d := by
    rw [State.clientRecords_sum, session_resetMap]
    have hslot (k : SlotNo) (hk : (Machine.resetMap m s).recordOf d k = true) :
        ∃ r, s.holding k = some r ∧ mapOf r.cell ≠ m ∧ r.client = d := by
      obtain ⟨r, hr, hclient⟩ := State.recordOf_iff.mp hk
      obtain ⟨hr, hmap⟩ := (holding_resetMap_iff s m k r).mp hr
      exact ⟨r, hr, hmap, hclient⟩
    split
    next hbound =>
      refine (Finset.sum_eq_zero fun k _ => ?_).symm
      have hnot : (Machine.resetMap m s).recordOf d k = false := Bool.eq_false_iff.mpr fun hk => by
        obtain ⟨r, hr, hmap, rfl⟩ := hslot k hk
        exact hmap (Option.some.inj ((h.record k r hr).2.2.symm.trans hbound))
      rw [hnot]
      rfl
    next hbound =>
      rw [h.held_sum]
      refine Finset.sum_congr rfl fun k _ => congrArg Bool.toNat ?_
      rw [Bool.eq_iff_iff]
      constructor
      · intro hk
        obtain ⟨r, hr, rfl⟩ := State.recordOf_iff.mp hk
        have hmap : mapOf r.cell ≠ m := fun heq => hbound (heq ▸ (h.record k r hr).2.2)
        exact State.recordOf_iff.mpr ⟨r, (holding_resetMap_iff s m k r).mpr ⟨hr, hmap⟩, rfl⟩
      · intro hk
        obtain ⟨r, hr, -, hclient⟩ := hslot k hk
        exact State.recordOf_iff.mpr ⟨r, hr, hclient⟩
  quota d := by
    rw [session_resetMap]
    split
    next => exact Nat.zero_le _
    next => exact h.quota d
  armed d := by
    rw [session_resetMap]
    split
    next =>
      have harmed := (h.armed d).mp
      change ((s.session d).armed || decide ((s.session d).warning ≠ 0)) = true ↔
        (s.session d).warning ≠ 0 ∧ 0 < (s.session d).warning
      rw [Bool.or_eq_true, decide_eq_true_iff]
      exact ⟨fun hor => have hne := hor.elim (fun ha => (harmed ha).1) id; ⟨hne, Nat.pos_of_ne_zero hne⟩,
        fun hand => .inr hand.1⟩
    next => exact h.armed d
  oneValue n n' hn hn' hmap hv := by
    obtain ⟨-, hcell⟩ := map_ne_of_resetMap (Cell.isIdle_of_shared hn)
    obtain ⟨-, hcell'⟩ := map_ne_of_resetMap (Cell.isIdle_of_shared hn')
    rw [hcell] at hn hv
    rw [hcell'] at hn' hv
    exact h.oneValue n n' hn hn' hmap hv

theorem SupervisorEffect.ledgerHolds (h : SupervisorEffect s cmd u) (hl : LedgerHolds s) : LedgerHolds u := by
  cases h with
  | keeps => exact hl
  | @opens c m b quota warning hclosed =>
    obtain ⟨howned, hheld⟩ := hl.counts_of_closed (c := c) (by rw [hclosed]; rfl)
    have horder : (Session.opened m b quota warning).InOrder :=
      ⟨Nat.zero_le _, by simp [Session.opened, Session.charge, armedFor]⟩
    exact (hl.setSession (.inr ⟨howned, hheld⟩) howned.symm hheld.symm horder).congr rfl rfl rfl
  | @setsQuota c quota warning _ _ hcharge =>
    refine hl.setSession (.inl rfl) rfl rfl ⟨hcharge, ?_⟩
    rw [armedFor, decide_eq_true_iff]
    rfl
  | @closes c m b hopen =>
    have hmap : SessionState.map? (.closing m b) = (s.session c).state.map? := by rw [hopen]; rfl
    exact (hl.setSession (x := { s.session c with state := .closing m b, openBatch := none }) (.inl hmap) rfl rfl
      ⟨hl.quota c, hl.armed c⟩).congr rfl rfl rfl
  | fixes hstate => exact hl.fixCell hstate
  | @unfixes n hstate =>
    refine hl.of_cells rfl rfl fun j => ?_
    rw [State.cell_release]
    split
    next hj => exact .inr ⟨by rw [beq_iff_eq.mp hj, hstate]; rfl, isIdle_releasedState _⟩
    next => exact .inl ⟨rfl, fun _ => rfl⟩
  | resetsMap m => exact hl.resetMap m
  | drainsMap => exact (hl.takeEntries _).congr rfl rfl rfl
  | flushes m => exact (hl.takeEntries _).endCooling m
  | setsMap | setsCommit => exact hl.congr rfl rfl rfl

/-- The records of one client removed one after another (R123). -/
theorem LedgerHolds.removeRecords (h : LedgerHolds s) {ks : List SlotNo} (hnodup : ks.Nodup)
    (hks : ∀ k ∈ ks, s.recordOf c k = true) : LedgerHolds (ks.foldl (fun t k => t.removeRecord c k) s) := by
  induction ks generalizing s with
  | nil => exact h
  | cons k ks ih =>
    obtain ⟨hk, hnodup⟩ := List.nodup_cons.mp hnodup
    obtain ⟨r, hr, rfl⟩ := State.recordOf_iff.mp (hks k List.mem_cons_self)
    refine ih (h.removeRecord hr) hnodup fun j hj => ?_
    rw [State.recordOf, State.holding_removeRecord, if_neg fun heq : j = k => hk (heq ▸ hj)]
    exact hks j (List.mem_cons_of_mem k hj)

/-- The cells of one client given back one after another (R123). -/
theorem LedgerHolds.giveBackCells (h : LedgerHolds s) {ns : List CellNo} (hnodup : ns.Nodup)
    (hns : ∀ n ∈ ns, (s.cell n).state = .owned c) : LedgerHolds (ns.foldl (fun t n => t.giveBackCell c n) s) := by
  induction ns generalizing s with
  | nil => exact h
  | cons n ns ih =>
    obtain ⟨hn, hnodup⟩ := List.nodup_cons.mp hnodup
    have hback := h.giveBack (p := (· == n)) (fun j hj => beq_iff_eq.mp hj ▸ hns n List.mem_cons_self) (sum_toNat_beq n)
    refine ih hback hnodup fun j hj => ?_
    change ((s.giveBackCell c n).cell j).state = _
    rw [State.cell_giveBackCell, if_neg fun heq : j = n => hn (heq ▸ hj)]
    exact hns j (List.mem_cons_of_mem n hj)

/-- A record of a slice is the client's (R122). -/
theorem State.recordOf_of_sliceRecords (h : k ∈ s.sliceRecords c) : s.recordOf c k = true :=
  ((sliceChooses s c).records k |>.mp h).1

theorem State.owned_of_sliceCells (h : n ∈ s.sliceCells c) : (s.cell n).state = .owned c :=
  State.cellOwnedBy_iff.mp ((sliceChooses s c).cells n |>.mp h).1

/-- No record names a cell that a client owns (R62). -/
theorem LedgerHolds.namesAt_of_owned (h : LedgerHolds s) (ho : (s.cell n).state = .owned c) (k : SlotNo) :
    s.namesAt n k = false := by
  unfold State.namesAt
  split
  next => rfl
  next r hr =>
    have hshared := h.shared_of_holding hr
    refine beq_eq_false_iff_ne.mpr fun heq => ?_
    simp [heq, Cell.isShared, ho] at hshared

theorem LedgerHolds.takeItems (h : LedgerHolds s) (c : ClientNo) : LedgerHolds (takeItems c s) := by
  have hrecords := takesItems_records s c _ (s.sliceRecords_nodup c) fun _ => State.holding_of_sliceRecords
  refine (h.removeRecords (s.sliceRecords_nodup c) fun _ => State.recordOf_of_sliceRecords).giveBackCells
    ((sliceChooses s c).cellOrder.imp ne_of_lt) fun n hn => ?_
  have howned := State.owned_of_sliceCells hn
  have hnamed : (s.sliceRecords c).any (s.namesAt n) = false :=
    List.any_eq_false.mpr fun k _ => by simp [h.namesAt_of_owned howned k]
  have hnot : s.releasedBy (s.sliceRecords c) [] n = false := by
    rw [State.releasedBy, hnamed]
    rfl
  rw [hrecords.cell, hnot, hnamed]
  exact howned

/-- A slice that finds no item leaves a client that owns and holds nothing (R63, R124). -/
theorem LedgerHolds.counts_of_no_item (h : LedgerHolds s) (hrecords : s.sliceRecords c = []) (hcells : s.sliceCells c = []) :
    (s.session c).owned = 0 ∧ (s.session c).held = 0 := by
  have howned : (s.session c).owned = (s.clientCells c).length := h.owned c
  have hheld : (s.session c).held = (s.clientRecords c).length := h.held c
  rw [State.sliceCells_eq, hrecords] at hcells
  rw [State.sliceRecords_eq] at hrecords
  simp only [List.length_nil, Nat.sub_zero, List.take_eq_nil_iff, OfNat.ofNat_ne_zero, false_or] at hcells hrecords
  rw [howned, hheld, hcells, hrecords]
  exact ⟨rfl, rfl⟩

theorem LedgerHolds.endTeardown (h : LedgerHolds s) (hrecords : s.sliceRecords c = []) (hcells : s.sliceCells c = []) :
    LedgerHolds (endTeardown c s) := by
  obtain ⟨howned, hheld⟩ := h.counts_of_no_item hrecords hcells
  have horder : (s.session c).ended.InOrder :=
    ⟨by simp [Session.ended, Session.charge, howned, hheld], by simp [Session.ended]⟩
  exact (h.setSession (x := (s.session c).ended) (.inr ⟨howned, hheld⟩) rfl rfl horder).congr rfl rfl rfl

/-- A part with nothing in its tables (R2, R17, R57, R112). -/
theorem ledgerHolds_of_reset (hcells : ∀ n, (s.cell n).state = .free) (hholdings : ∀ k, s.holding k = none)
    (hsessions : ∀ c, s.session c = .reset) : LedgerHolds s where
  owner n c hn := by simp [hcells] at hn
  record k r hr := by simp [hholdings] at hr
  oneRecord k k' r r' hr := by simp [hholdings] at hr
  references n := by
    rw [State.countsOn_eq, Finset.sum_eq_zero fun k _ => State.countAt_of_none (hholdings k) n]
    simp [State.references, hcells, CellState.referencesField]
  shared n r hr := by simp [hcells] at hr
  owned c := by
    rw [State.clientCells_length, Finset.sum_eq_zero fun n _ => by simp [State.cellOwnedBy, hcells], hsessions]
    rfl
  held c := by
    rw [State.clientRecords_sum, Finset.sum_eq_zero fun k _ => by simp [State.recordOf, hholdings], hsessions]
    rfl
  quota c := by
    rw [hsessions]
    exact Nat.zero_le _
  armed c := by simp [hsessions, Session.reset]
  oneValue n n' hn := by simp [Cell.isShared, hcells] at hn

theorem cell_powerOn (supm : MasterNo) (n : CellNo) : (State.powerOn supm).cell n = .reset :=
  Vector.getElem_replicate _

theorem holding_powerOn (supm : MasterNo) (k : SlotNo) : (State.powerOn supm).holding k = none :=
  Vector.getElem_replicate _

theorem ledgerHolds_powerOn (supm : MasterNo) : LedgerHolds (State.powerOn supm) :=
  ledgerHolds_of_reset (fun n => by rw [cell_powerOn]; rfl) (holding_powerOn supm) (session_powerOn supm)

theorem cell_partReset (s : State) (n : CellNo) : s.partReset.cell n = (s.cell n).partReset :=
  mapTable_get _ s.cells n.val n.isLt

theorem ledgerHolds_partReset (s : State) : LedgerHolds s.partReset :=
  ledgerHolds_of_reset (fun n => by rw [cell_partReset]; rfl) (holding_powerOn s.supMaster) (session_powerOn s.supMaster)

theorem Happens.ledgerHolds {i : Instr} (h : Happens s i t) (hl : LedgerHolds s) : LedgerHolds t := by
  cases h with
  | idles => exact hl
  | client hrun heffect => exact (heffect.ledgerHolds hl hrun.session).congr rfl rfl rfl
  | supervisor hrun heffect => exact (heffect.ledgerHolds hl).congr rfl rfl rfl
  | sliceEnds hrun hrecords hcells => exact (hl.endTeardown hrecords hcells).congr rfl rfl rfl
  | sliceTakes => exact (hl.takeItems _).congr rfl rfl rfl
  | boundary low high =>
    have hwatched : LedgerHolds { s with blank := s.blank.watch low high } := hl.congr rfl rfl rfl
    exact (hwatched.takeEntries _).countdown
  | counts => exact hl.countdown
  | resetHeld | resetReleased => exact (ledgerHolds_powerOn 0).congr rfl rfl rfl
  | partReset => exact ledgerHolds_partReset s
  | denied =>
    rw [State.deny_eq]
    exact hl.congr rfl rfl rfl
  | @takes w =>
    cases w with
    | slice => exact hl.congr rfl rfl rfl
    | command w =>
      unfold State.take
      dsimp only
      split <;> exact hl.congr rfl rfl rfl
  | closedOut | sliceDrops | watches | looksUp | writes | answers | accepts | clearsFault | selects | reads | inspects =>
    exact hl.congr rfl rfl rfl

/-- Settles O6: no row breaks the accounts, which do not read the queue of waiting rows. -/
theorem stepKeepsLedger : Obligations.StepKeepsLedger := by
  intro s t hl hstep
  obtain rfl | ⟨i, rest, hrow⟩ := step_cases hstep
  · exact hl
  · exact hrow.ledgerHolds (hl.congr rfl rfl rfl)

end Sys2Proof.Machine
end

section
/-! Proofs on the ranges (R6, R10, R57, R65, R66, R72, R77, R82, R129, R141, R151): the ranges record by record, that every row keeps
them, and the bounds that rest on the accounts (O4). -/

namespace Sys2Proof.Machine

variable {s t u : State} {c : ClientNo} {m : MapNo} {n : CellNo} {k : SlotNo} {cmd : Command}

/-! ### The ranges record by record -/

/-- The range of the field that a cell's state carries (R6, R10). -/
def CellState.InRange : CellState → Prop
  | .cooling j => 1 ≤ j ∧ j ≤ Config.coolingLimit
  | .shared r => 1 ≤ r
  | .free | .owned _ | .fixed => True

/-- The range of a record's count (R57). -/
def Holding.InRange (r : Holding) : Prop := 1 ≤ r.count ∧ r.count ≤ Config.holdLimit

/-- The range of the serial of an entry's tag (R72). -/
def Entry.InRange (e : Entry) : Prop := ∀ t, e.tag = some t → 1 ≤ t.serial ∧ t.serial ≤ Config.serialLimit

/-- The ranges of a session's fields (R65, R66, R77). -/
structure Session.InRange (x : Session) : Prop where
  quota : x.quota ≤ Config.quotaLimit ∧ x.warning ≤ Config.quotaLimit
  nextSerial : 1 ≤ x.nextSerial ∧ x.nextSerial ≤ Config.serialLimit
  openSerial : ∀ j, x.openBatch = some j → 1 ≤ j ∧ j ≤ Config.serialLimit

/-- The ranges of the cells, the records, the entries and the sessions. -/
structure TablesInRange (s : State) : Prop where
  cells : ∀ n, (s.cell n).state.InRange
  records : ∀ k r, s.holding k = some r → r.InRange
  entries : ∀ e ∈ s.queue, e.InRange
  sessions : ∀ c, (s.session c).InRange

/-- The ranges of the settings, the fault record, the cursor and the watch. -/
structure UnitsInRange (s : State) : Prop where
  budget : Config.budgetMin ≤ s.budget ∧ s.budget ≤ Config.budgetMax
  cooling : s.cooling ≤ Config.coolingLimit
  more : s.fault = none → s.more = false
  position : s.cursor.position.val < s.cursor.table.size
  capture : s.cursor.table ≠ .cells → s.cursor.word = .first
  rising : ∀ elapsed, s.blank = .rising elapsed → elapsed < Config.blankPulse

theorem RangesHold.tables (h : RangesHold s) : TablesInRange s where
  cells n := by
    cases hx : (s.cell n).state with
    | cooling j => exact h.remaining n j hx
    | shared r => exact h.references n r hx
    | _ => trivial
  records := h.count
  entries := h.tagSerial
  sessions c := ⟨h.quota c, h.nextSerial c, h.openSerial c⟩

theorem RangesHold.units (h : RangesHold s) : UnitsInRange s :=
  ⟨h.budget, h.cooling, h.more, h.position, h.capture, h.rising⟩

theorem rangesHold_of_inRange (h : TablesInRange s) (hu : UnitsInRange s) : RangesHold s where
  budget := hu.budget
  cooling := hu.cooling
  remaining n j hj := by
    have hcell := h.cells n
    rwa [hj] at hcell
  references n r hr := by
    have hcell := h.cells n
    rwa [hr] at hcell
  count := h.records
  tagSerial := h.entries
  quota c := (h.sessions c).quota
  nextSerial c := (h.sessions c).nextSerial
  openSerial c := (h.sessions c).openSerial
  more := hu.more
  position := hu.position
  capture := hu.capture
  rising := hu.rising

theorem UnitsInRange.of_keepsRest (h : UnitsInRange s) (hk : KeepsRest s t) : UnitsInRange t where
  budget := by rw [hk.budget]; exact h.budget
  cooling := by rw [hk.cooling]; exact h.cooling
  more := by rw [hk.fault, hk.more]; exact h.more
  position := by rw [hk.cursor]; exact h.position
  capture := by rw [hk.cursor]; exact h.capture
  rising := by rw [hk.blank]; exact h.rising

theorem TablesInRange.congr (h : TablesInRange s) (hcells : t.cells = s.cells) (hholdings : t.holdings = s.holdings)
    (hqueue : t.queue = s.queue) (hsessions : t.sessions = s.sessions) : TablesInRange t where
  cells n := by rw [State.cell, hcells]; exact h.cells n
  records k r hr := by rw [State.holding, hholdings] at hr; exact h.records k r hr
  entries := by rw [hqueue]; exact h.entries
  sessions c := by rw [State.session, hsessions]; exact h.sessions c

/-! ### What the shared operations leave in range -/

theorem inRange_releasedState {setting : Nat} (h : setting ≤ Config.coolingLimit) : (releasedState setting).InRange := by
  unfold releasedState
  split
  next => trivial
  next hne => exact ⟨Nat.one_le_iff_ne_zero.mpr hne, h⟩

theorem Session.InRange.recount {x : Session} (h : x.InRange) (owned held : Nat) : (x.recount owned held).InRange :=
  ⟨h.quota, h.nextSerial, h.openSerial⟩

theorem Entry.inRange_single (n : CellNo) : (⟨n, none⟩ : Entry).InRange := fun _ h => by cases h

theorem TablesInRange.detached (h : TablesInRange s) (p : CellNo → Bool) : ∀ e ∈ s.detached p, e.InRange := by
  intro e he
  obtain ⟨e', he', rfl⟩ := List.mem_map.mp he
  split
  next => exact Entry.inRange_single _
  next => exact h.entries e' he'

theorem TablesInRange.filter (h : TablesInRange s) (p : Entry → Bool) : ∀ e ∈ s.queue.filter p, e.InRange :=
  fun e he => h.entries e (List.mem_filter.mp he).1

theorem TablesInRange.openTag (h : TablesInRange s) (c : ClientNo) (n : CellNo) : (⟨n, s.openTag c⟩ : Entry).InRange := by
  intro g hg
  obtain ⟨j, hj, rfl⟩ := Option.map_eq_some_iff.mp hg
  exact (h.sessions c).openSerial j hj

theorem TablesInRange.setValue_queue (h : TablesInRange s) {n : CellNo} {v : Colour} {tag : Option Tag}
    (htag : (⟨n, tag⟩ : Entry).InRange) : ∀ e ∈ (s.setValue n v tag).queue, e.InRange := by
  rw [State.setValue_queue]
  split
  next => exact h.entries
  next =>
    intro e he
    obtain he | he := List.mem_append.mp he
    · exact h.filter _ e he
    · rw [List.mem_singleton.mp he]
      exact htag

theorem TablesInRange.setCounts (h : TablesInRange s) (c : ClientNo) (owned held : Nat) :
    TablesInRange (s.setCounts c owned held) where
  cells n := by rw [State.cell_setCounts]; exact h.cells n
  records k r hr := h.records k r (by rwa [State.holding_setCounts] at hr)
  entries := by rw [State.setCounts_queue]; exact h.entries
  sessions d := by
    rw [State.session_setCounts]
    split
    next => exact (h.sessions c).recount owned held
    next => exact h.sessions d

theorem TablesInRange.setHolding (h : TablesInRange s) {k : SlotNo} {x : Option Holding} (hx : ∀ r, x = some r → r.InRange) :
    TablesInRange (s.setHolding k x) where
  cells := h.cells
  records j r hr := by
    rw [State.holding_setHolding] at hr
    split at hr
    next => exact hx r hr
    next => exact h.records j r hr
  entries := h.entries
  sessions := h.sessions

theorem TablesInRange.setCell (h : TablesInRange s) {n : CellNo} {x : Cell} (hx : x.state.InRange) :
    TablesInRange (s.setCell n x) where
  cells j := by
    rw [State.cell_setCell]
    split
    next => exact hx
    next => exact h.cells j
  records := h.records
  entries := h.entries
  sessions := h.sessions

theorem TablesInRange.setSession (h : TablesInRange s) {c : ClientNo} {x : Session} (hx : x.InRange) :
    TablesInRange (s.setSession c x) where
  cells := h.cells
  records := h.records
  entries := h.entries
  sessions d := by
    rw [State.session_setSession]
    split
    next => exact hx
    next => exact h.sessions d

theorem TablesInRange.setValue (h : TablesInRange s) {n : CellNo} {v : Colour} {tag : Option Tag}
    (htag : (⟨n, tag⟩ : Entry).InRange) : TablesInRange (s.setValue n v tag) where
  cells j := by
    rw [State.cell_setValue]
    split
    next => exact h.cells n
    next => exact h.cells j
  records k r hr := h.records k r (by rwa [State.holding_setValue] at hr)
  entries := h.setValue_queue htag
  sessions c := by rw [State.session_setValue]; exact h.sessions c

theorem TablesInRange.release (h : TablesInRange s) (hcooling : s.cooling ≤ Config.coolingLimit) (p : CellNo → Bool) :
    TablesInRange (s.release p) where
  cells j := by
    rw [State.cell_release]
    split
    next => exact inRange_releasedState hcooling
    next => exact h.cells j
  records := h.records
  entries := h.detached p
  sessions := h.sessions

theorem TablesInRange.dropReferences (h : TablesInRange s) (hcooling : s.cooling ≤ Config.coolingLimit) (n : CellNo)
    (j : Nat) : TablesInRange (s.dropReferences n j) := by
  unfold State.dropReferences
  split
  next => exact h.release hcooling _
  next hmore => exact h.setCell (Nat.sub_pos_of_lt (Nat.lt_of_not_le hmore))

theorem TablesInRange.addReference (h : TablesInRange s) (n : CellNo) : TablesInRange (s.addReference n) :=
  h.setCell (Nat.le_add_left 1 _)

theorem TablesInRange.takeEntries (h : TablesInRange s) (p : Entry → Bool) : TablesInRange (s.takeEntries p) where
  cells j := by
    rw [State.cell_takeEntries]
    split <;> exact h.cells j
  records := h.records
  entries := h.filter _
  sessions := h.sessions

theorem TablesInRange.mapCells (h : TablesInRange s) {f : CellNo → Cell → Cell}
    (hf : ∀ n x, x.state.InRange → (f n x).state.InRange) : TablesInRange (s.mapCells f) where
  cells n := by rw [State.cell_mapCells]; exact hf n _ (h.cells n)
  records := h.records
  entries := h.entries
  sessions := h.sessions

theorem Holding.inRange_one (c : ClientNo) (n : CellNo) : (⟨c, n, 1⟩ : Holding).InRange :=
  ⟨le_refl 1, Nat.le_of_ble_eq_true rfl⟩

theorem TablesInRange.placeRecord (h : TablesInRange s) (c : ClientNo) (n : CellNo) (k : SlotNo) :
    TablesInRange (s.placeRecord c n k) :=
  (h.setHolding fun r hr => by cases hr; exact Holding.inRange_one c n).setCounts _ _ _

theorem Cell.inRange_cool {x : Cell} (h : x.state.InRange) : x.cool.state.InRange := by
  unfold Cell.cool
  split
  next j hj =>
    rw [hj] at h
    obtain ⟨-, hhi⟩ := h
    dsimp only
    split
    next => trivial
    next hmore => exact ⟨Nat.sub_pos_of_lt (Nat.lt_of_not_le hmore), (Nat.sub_le j 1).trans hhi⟩
  next => exact h

/-- The search for a serial stays within the serials (R78). -/
theorem State.freeSerial_range (s : State) (c : ClientNo) (fuel : Nat) {j : Nat} (hj : 1 ≤ j ∧ j ≤ Config.serialLimit) :
    1 ≤ s.freeSerial c fuel j ∧ s.freeSerial c fuel j ≤ Config.serialLimit := by
  induction fuel generalizing j with
  | zero => exact hj
  | succ fuel ih =>
    rw [State.freeSerial]
    split
    next => exact hj
    next => exact ih (serialAfter_range j)

theorem ClientEffect.tablesInRange (h : ClientEffect s c m cmd u) (ht : TablesInRange s)
    (hcooling : s.cooling ≤ Config.coolingLimit) : TablesInRange u := by
  cases h with
  | keeps => exact ht
  | addsReference _ _ _ hroom =>
    exact (ht.setHolding fun r hr => by cases hr; exact ⟨Nat.le_add_left 1 _, hroom⟩).addReference _
  | makesRecord => exact (ht.addReference _).placeRecord _ _ _
  | makesShared =>
    exact ((ht.setCell (le_refl 1)).setValue (Entry.inRange_single _)).placeRecord _ _ _
  | dropsRecord _ hfound =>
    obtain ⟨r, hr, -⟩ := State.holding_of_findHolding hfound
    rw [s.removeRecord_eq hr]
    exact ((ht.setHolding fun r hr => by cases hr).dropReferences hcooling _ _).setCounts _ _ _
  | @dropsReference n k _ hfound hmore =>
    obtain ⟨r, hr, -⟩ := State.holding_of_findHolding hfound
    have hcount := State.recordCount_of_holding hr
    refine (ht.setHolding fun r' hr' => ?_).dropReferences hcooling _ _
    cases hr'
    exact ⟨Nat.sub_pos_of_lt hmore, (Nat.sub_le _ _).trans (hcount ▸ (ht.records k r hr).2)⟩
  | givesBack => exact (ht.release hcooling _).setCounts _ _ _
  | makesPublic =>
    exact ((ht.setCell (le_refl 1)).setHolding fun r hr => by cases hr; exact Holding.inRange_one _ _).setCounts _ _ _
  | takesRun =>
    refine (ht.mapCells fun j x hx => ?_).setCounts _ _ _
    split
    next => trivial
    next => exact hx
  | stores => exact ht.setValue (ht.openTag _ _)
  | @opensBatch serial _ _ hserial =>
    have hrange := hserial ▸ s.freeSerial_range c Config.serialLimit (ht.sessions c).nextSerial
    refine ht.setSession ⟨(ht.sessions c).quota, serialAfter_range _, fun j hj => ?_⟩
    cases hj
    exact hrange
  | closesBatch => exact ht.setSession ⟨(ht.sessions c).quota, (ht.sessions c).nextSerial, fun j hj => by cases hj⟩

theorem SupervisorEffect.tablesInRange (h : SupervisorEffect s cmd u) (ht : TablesInRange s)
    (hcooling : s.cooling ≤ Config.coolingLimit) : TablesInRange u := by
  cases h with
  | keeps => exact ht
  | opens _ hquota hwarning =>
    exact (ht.setSession ⟨⟨hquota, hwarning⟩, ⟨le_refl 1, Nat.le_of_ble_eq_true rfl⟩, fun j hj => by cases hj⟩).congr
      rfl rfl rfl rfl
  | @setsQuota c _ _ hquota hwarning =>
    exact ht.setSession ⟨⟨hquota, hwarning⟩, (ht.sessions c).nextSerial, (ht.sessions c).openSerial⟩
  | @closes c m b =>
    exact (ht.setSession (x := { s.session c with state := .closing m b, openBatch := none })
      ⟨(ht.sessions c).quota, (ht.sessions c).nextSerial, fun j hj => by cases hj⟩).congr rfl rfl rfl rfl
  | @fixes n v => exact (ht.setCell (x := (s.cell n).become .fixed) trivial).setValue (Entry.inRange_single n)
  | unfixes => exact ht.release hcooling _
  | resetsMap m =>
    refine ⟨fun n => ?_, fun k r hr => ?_, ht.filter _, fun d => ?_⟩
    · rw [cell_resetMap]
      split
      next =>
        unfold Cell.mapReset
        dsimp only
        split <;> trivial
      next => exact ht.cells n
    · exact ht.records k r ((holding_resetMap_iff s m k r).mp hr).1
    · rw [session_resetMap]
      split
      next => exact ⟨(ht.sessions d).quota, (ht.sessions d).nextSerial, fun j hj => by cases hj⟩
      next => exact ht.sessions d
  | drainsMap => exact (ht.takeEntries _).congr rfl rfl rfl rfl
  | flushes m =>
    refine (ht.takeEntries _).mapCells fun n x hx => ?_
    split
    next => trivial
    next => exact hx
  | setsMap | setsCommit => exact ht.congr rfl rfl rfl rfl

theorem SupervisorEffect.unitsInRange (h : SupervisorEffect s cmd u) (hu : UnitsInRange s) : UnitsInRange u := by
  cases h with
  | setsCommit hbudget hcooling => exact { hu with budget := hbudget, cooling := hcooling }
  | fixes => exact hu.of_keepsRest (s.keepsRest_fixCell _ _)
  | _ => exact ⟨hu.budget, hu.cooling, hu.more, hu.position, hu.capture, hu.rising⟩

theorem TakesItems.tablesInRange {ks : List SlotNo} {ns : List CellNo} (h : TakesItems s c ks ns t) (ht : TablesInRange s)
    (hcooling : s.cooling ≤ Config.coolingLimit) : TablesInRange t where
  cells n := by
    rw [h.cell]
    split
    next => exact inRange_releasedState hcooling
    next hkept =>
      split
      next hnamed =>
        have hmore : s.countOver ks n < s.references n := by
          by_contra hall
          exact hkept (by simp only [State.releasedBy, hnamed, Nat.le_of_not_lt hall, decide_true, Bool.and_self,
            Bool.or_true])
        exact Nat.sub_pos_of_lt hmore
      next => exact ht.cells n
  records k r hr := by
    rw [h.holding] at hr
    split at hr
    next => cases hr
    next => exact ht.records k r hr
  entries := by
    rw [h.queue]
    exact ht.detached _
  sessions d := by
    by_cases hd : d = c
    · rw [hd, h.counts.session]
      exact (ht.sessions c).recount _ _
    · rw [h.counts.sessions d hd]
      exact ht.sessions d

/-! ### The watch and the cursor (R141, R151) -/

/-- A rise that is watched has lasted less than the minimum high time (R151). -/
theorem BlankWatch.lt_of_rising {low high elapsed : Nat} {x : BlankWatch} (h : x.watch low high = .rising elapsed) :
    elapsed < Config.blankPulse := by
  have hstay {total : Nat} (htotal : BlankWatch.stayHigh total = .rising elapsed) : elapsed < Config.blankPulse := by
    unfold BlankWatch.stayHigh at htotal
    split at htotal
    next hlt =>
      cases htotal
      exact hlt
    next => cases htotal
  unfold BlankWatch.watch BlankWatch.rise at h
  split at h
  next e he =>
    split at h
    next => rw [he] at h; cases h
    next =>
      split at h
      next => cases h
      next => exact hstay h
  next => exact hstay h
  next => cases h

theorem InspTable.position_lt (x : InspTable) (p : Nat) : (x.position p).val < x.size := by
  unfold InspTable.position
  split
  next h => exact h.2
  next => cases x <;> decide

theorem UnitsInRange.setCursor (h : UnitsInRange s) {x : Cursor} (hposition : x.position.val < x.table.size)
    (hcapture : x.table ≠ .cells → x.word = .first) : UnitsInRange { s with cursor := x } :=
  { h with position := hposition, capture := hcapture }

theorem UnitsInRange.select (h : UnitsInRange s) (data : Word) : UnitsInRange { s with cursor := s.cursor.select data } := by
  unfold Cursor.select
  split
  next => exact h.setCursor h.position h.capture
  next x hx => exact h.setCursor (x.position_lt _) fun _ => rfl

theorem UnitsInRange.inspNext (h : UnitsInRange s) :
    UnitsInRange { s.answerRead s.inspWord with cursor := s.inspNext } := by
  have hadvance : UnitsInRange { s with cursor := s.cursor.advance } :=
    h.setCursor (s.cursor.table.position_lt _) fun _ => rfl
  suffices hnext : UnitsInRange { s with cursor := s.inspNext } from
    ⟨hnext.budget, hnext.cooling, hnext.more, hnext.position, hnext.capture, hnext.rising⟩
  unfold State.inspNext
  split
  next hcells =>
    split
    next => exact h.setCursor h.position fun hne => absurd hcells hne
    next => exact h.setCursor h.position fun hne => absurd hcells hne
    next => exact hadvance
  next => exact hadvance
  next => exact hadvance

/-! ### Every row -/

theorem tablesInRange_of_reset (hcells : ∀ n, (s.cell n).state = .free) (hholdings : ∀ k, s.holding k = none)
    (hqueue : s.queue = []) (hsessions : ∀ c, s.session c = .reset) : TablesInRange s where
  cells n := by rw [hcells]; trivial
  records k r hr := by simp [hholdings] at hr
  entries e he := by simp [hqueue] at he
  sessions c := by
    rw [hsessions]
    exact ⟨⟨Nat.zero_le _, Nat.zero_le _⟩, ⟨le_refl 1, Nat.le_of_ble_eq_true rfl⟩, fun j hj => by cases hj⟩

theorem tablesInRange_powerOn (supm : MasterNo) : TablesInRange (State.powerOn supm) :=
  tablesInRange_of_reset (fun n => by rw [cell_powerOn]; rfl) (holding_powerOn supm) rfl (session_powerOn supm)

theorem unitsInRange_powerOn (supm : MasterNo) : UnitsInRange (State.powerOn supm) :=
  ⟨⟨Nat.le_of_ble_eq_true rfl, Nat.le_of_ble_eq_true rfl⟩, Nat.le_of_ble_eq_true rfl, fun _ => rfl, Nat.succ_pos _,
    fun hne => absurd rfl hne, fun _ h => by cases h⟩

theorem Happens.tablesInRange {i : Instr} (h : Happens s i t) (ht : TablesInRange s)
    (hcooling : s.cooling ≤ Config.coolingLimit) : TablesInRange t := by
  cases h with
  | idles => exact ht
  | client _ heffect => exact (heffect.tablesInRange ht hcooling).congr rfl rfl rfl rfl
  | supervisor _ heffect => exact (heffect.tablesInRange ht hcooling).congr rfl rfl rfl rfl
  | @sliceEnds c =>
    exact (ht.setSession (x := (s.session c).ended)
      ⟨⟨Nat.zero_le _, Nat.zero_le _⟩, (ht.sessions c).nextSerial, (ht.sessions c).openSerial⟩).congr rfl rfl rfl rfl
  | @sliceTakes c => exact ((takesItems_takeItems s c).tablesInRange ht hcooling).congr rfl rfl rfl rfl
  | boundary low high =>
    have hwatched : TablesInRange { s with blank := s.blank.watch low high } := ht.congr rfl rfl rfl rfl
    exact (hwatched.takeEntries _).mapCells fun _ _ => Cell.inRange_cool
  | counts => exact ht.mapCells fun _ _ => Cell.inRange_cool
  | resetHeld | resetReleased => exact (tablesInRange_powerOn 0).congr rfl rfl rfl rfl
  | partReset =>
    exact tablesInRange_of_reset (fun n => by rw [cell_partReset]; rfl) (holding_powerOn s.supMaster) rfl
      (session_powerOn s.supMaster)
  | denied =>
    rw [State.deny_eq]
    exact ht.congr rfl rfl rfl rfl
  | @takes w =>
    cases w with
    | slice => exact ht.congr rfl rfl rfl rfl
    | command w =>
      unfold State.take
      dsimp only
      split <;> exact ht.congr rfl rfl rfl rfl
  | closedOut | sliceDrops | watches | looksUp | writes | answers | accepts | clearsFault | selects | reads | inspects =>
    exact ht.congr rfl rfl rfl rfl

theorem Happens.unitsInRange {i : Instr} (h : Happens s i t) (hu : UnitsInRange s) : UnitsInRange t := by
  cases h with
  | idles => exact hu
  | client _ heffect => exact (hu.of_keepsRest heffect.keepsRest).of_keepsRest (by constructor <;> rfl)
  | supervisor _ heffect => exact (heffect.unitsInRange hu).of_keepsRest (by constructor <;> rfl)
  | @sliceTakes c =>
    exact (hu.of_keepsRest (takesItems_takeItems s c).counts.rest).of_keepsRest (by constructor <;> rfl)
  | boundary low high =>
    exact ⟨by simpa using hu.budget, by simpa using hu.cooling, by simpa using hu.more, by simpa using hu.position,
      by simpa using hu.capture, fun e he => BlankWatch.lt_of_rising (by simpa using he)⟩
  | watches => exact { hu with rising := fun _ => BlankWatch.lt_of_rising }
  | resetHeld | resetReleased =>
    have hreset := unitsInRange_powerOn 0
    exact ⟨hreset.budget, hreset.cooling, hreset.more, hreset.position, hreset.capture, hreset.rising⟩
  | partReset =>
    have hreset := unitsInRange_powerOn 0
    exact ⟨hreset.budget, hreset.cooling, hreset.more, hreset.position, hreset.capture, hu.rising⟩
  | denied =>
    rw [State.deny_eq]
    exact ⟨hu.budget, hu.cooling, fun hnone => by simp [State.deny_fault] at hnone, hu.position, hu.capture, hu.rising⟩
  | @takes w =>
    cases w with
    | slice => exact ⟨hu.budget, hu.cooling, hu.more, hu.position, hu.capture, hu.rising⟩
    | command w =>
      unfold State.take
      dsimp only
      split <;> exact ⟨hu.budget, hu.cooling, hu.more, hu.position, hu.capture, hu.rising⟩
  | clearsFault => exact { hu with more := fun _ => rfl }
  | selects _ data => exact hu.select data
  | inspects => exact hu.inspNext
  | closedOut | sliceDrops | sliceEnds | counts | looksUp | writes | answers | accepts | reads =>
    exact ⟨hu.budget, hu.cooling, hu.more, hu.position, hu.capture, hu.rising⟩

theorem Happens.rangesHold {i : Instr} (h : Happens s i t) (hr : RangesHold s) : RangesHold t :=
  rangesHold_of_inRange (h.tablesInRange hr.tables hr.cooling) (h.unitsInRange hr.units)

/-! ### Bounds that rest on the accounts -/

/-- At most eight records name a cell, one for each client, and each counts at most 255 (R5, R57, R58). -/
theorem LedgerHolds.references_le (h : LedgerHolds s) (n : CellNo) : s.references n ≤ 2040 := by
  let named := Finset.univ.filter fun k => s.namesAt n k = true
  have hholding (k : SlotNo) (hk : k ∈ named) : ∃ r, s.holding k = some r ∧ r.cell = n := by
    have hk := (Finset.mem_filter.mp hk).2
    unfold State.namesAt at hk
    split at hk
    next => cases hk
    next r hr => exact ⟨r, hr, beq_iff_eq.mp hk⟩
  have hinj : Set.InjOn (fun k => (s.holding k).map Holding.client) named := by
    intro k hk k' hk' heq
    obtain ⟨r, hr, hcell⟩ := hholding k hk
    obtain ⟨r', hr', hcell'⟩ := hholding k' hk'
    simp only [hr, hr', Option.map_some, Option.some.injEq] at heq
    exact h.oneRecord k k' r r' hr hr' heq (hcell.trans hcell'.symm)
  have hcard : named.card ≤ 8 := by
    have himage : named.image (fun k => (s.holding k).map Holding.client) ⊆ Finset.univ.image some := by
      intro x hx
      obtain ⟨k, hk, rfl⟩ := Finset.mem_image.mp hx
      obtain ⟨r, hr, -⟩ := hholding k hk
      simp [hr]
    rw [← Finset.card_image_of_injOn hinj]
    exact (Finset.card_le_card himage).trans Finset.card_image_le
  calc s.references n = ∑ k, s.countAt n k := h.references_sum n
    _ = ∑ k ∈ named, s.countAt n k := by
      refine (Finset.sum_filter_of_ne fun k _ hne => ?_).symm
      by_contra hnot
      exact hne (State.countAt_of_not_named (by simpa using hnot))
    _ ≤ named.card • 255 := by
      refine Finset.sum_le_card_nsmul _ _ _ fun k hk => ?_
      obtain ⟨r, hr, hcell⟩ := hholding k hk
      rw [State.countAt_of_holding hr, if_pos hcell]
      exact (h.record k r hr).2.1
    _ ≤ 2040 := by
      rw [smul_eq_mul]
      omega

/-- Settles O4: the ranges, which do not read the queue of waiting rows, and the bounds that the accounts give. -/
theorem stepKeepsRanges : Obligations.StepKeepsRanges := by
  refine ⟨fun s t hr hstep => ?_, fun s hr hl => ⟨fun n r hstate => ?_, fun c => ?_⟩⟩
  · obtain rfl | ⟨i, rest, hrow⟩ := step_cases hstep
    · exact hr
    · exact hrow.rangesHold (rangesHold_of_inRange (hr.tables.congr rfl rfl rfl rfl)
        ⟨hr.budget, hr.cooling, hr.more, hr.position, hr.capture, hr.rising⟩)
  · rw [← State.references_of_shared hstate]
    exact hl.references_le n
  · have hcharge := hl.quota c
    have hquota := (hr.quota c).1
    unfold Session.charge at hcharge
    unfold Config.quotaLimit at hquota
    omega

end Sys2Proof.Machine
end

section
/-! Proofs on the laws of the queue and its batches (R72, R75, R76, R80, R92): what every operation on the queue keeps of them, that
every row keeps them in a lawful part, and that every law holds at reset. -/

namespace Sys2Proof.Machine

variable {s t u : State} {c : ClientNo} {m : MapNo} {n : CellNo} {k : SlotNo} {cmd : Command}

/-! ### Entries of open batches -/

/-- An entry in an open batch names the serial that the batch's client has open (R76). -/
theorem State.batchOpen_iff {g : Tag} : s.batchOpen g = true ↔ (s.session g.client).openBatch = some g.serial :=
  beq_iff_eq

theorem State.inOpenBatch_iff {e : Entry} : s.inOpenBatch e = true ↔ ∃ g, e.tag = some g ∧ s.batchOpen g = true := by
  unfold State.inOpenBatch
  cases e.tag <;> simp

theorem State.queued_iff : s.queued n = true ↔ ∃ e ∈ s.queue, e.cell = n := by
  simp [State.queued]

/-- Every batch that is open in `t` was open in `s`, of a session in the same state. -/
def State.OpensNoBatch (s t : State) : Prop :=
  ∀ c k, (t.session c).openBatch = some k → (s.session c).openBatch = some k ∧ (t.session c).state = (s.session c).state

theorem State.OpensNoBatch.refl (s : State) : s.OpensNoBatch s := fun _ _ h => ⟨h, rfl⟩

theorem State.OpensNoBatch.batchOpen (h : s.OpensNoBatch t) {g : Tag} (hg : t.batchOpen g = true) : s.batchOpen g = true :=
  State.batchOpen_iff.mpr (h _ _ (State.batchOpen_iff.mp hg)).1

/-- A DEFERRED map stays DEFERRED. -/
def State.KeepsDeferred (s t : State) : Prop := ∀ m, (s.map m).mode = .deferred → (t.map m).mode = .deferred

theorem QueueHolds.opener_of (h : QueueHolds s) (hopen : s.OpensNoBatch t) (hmodes : s.KeepsDeferred t) (c : ClientNo)
    (j : Nat) (hj : (t.session c).openBatch = some j) :
    ∃ m b, (t.session c).state = .opened m b ∧ (t.map m).mode = .deferred := by
  obtain ⟨hs, hstate⟩ := hopen c j hj
  obtain ⟨m, b, hm, hmode⟩ := h.opener c j hs
  exact ⟨m, b, hstate.trans hm, hmodes m hmode⟩

/-! ### The queue with entries left out and tags taken off -/

/-- A rewriting of entries that keeps the cell, and keeps the tag or takes it off. -/
structure Untags (g : Entry → Entry) : Prop where
  cell : ∀ e, (g e).cell = e.cell
  tag : ∀ e, (g e).tag = e.tag ∨ (g e).tag = none

theorem untags_id : Untags id := ⟨fun _ => rfl, fun _ => .inl rfl⟩

theorem Untags.carries {g : Entry → Entry} (hg : Untags g) {a : Tag} {e : Entry} (h : (g e).carries a = true) :
    e.carries a = true := by
  obtain htag | htag := hg.tag e
  · rwa [Entry.carries, htag] at h
  · simp [Entry.carries, htag] at h

/-- The laws where the queue has lost entries and tags alone: what is left for each is that its map is DEFERRED and that the
members of open batches are their client's. -/
theorem QueueHolds.of_sublist (h : QueueHolds s) {l : List Entry} {g : Entry → Entry} (hsub : l.Sublist s.queue)
    (hg : Untags g) (hqueue : t.queue = l.map g) (hdeferred : ∀ e ∈ l, (t.map (mapOf e.cell)).mode = .deferred)
    (hahead : ∀ n, (t.cell n).working ≠ (t.cell n).visible → t.queued n = true)
    (hmember : ∀ e ∈ l, ∀ a, (g e).tag = some a → t.batchOpen a = true → (t.cell e.cell).state = .owned a.client)
    (hopener : ∀ c k, (t.session c).openBatch = some k →
      ∃ m b, (t.session c).state = .opened m b ∧ (t.map m).mode = .deferred) : QueueHolds t where
  length := by
    rw [hqueue, List.length_map]
    exact hsub.length_le.trans h.length
  once := by
    have hcells : t.queue.map Entry.cell = l.map Entry.cell := by
      rw [hqueue, List.map_map]
      exact List.map_congr_left fun e _ => hg.cell e
    rw [hcells]
    exact h.once.sublist (hsub.map _)
  deferred e he := by
    obtain ⟨e', he', rfl⟩ := List.mem_map.mp (hqueue ▸ he)
    rw [hg.cell]
    exact hdeferred e' he'
  ahead := hahead
  batch a :=
    calc t.batchCount a = l.countP fun e => (g e).carries a := by rw [State.batchCount, hqueue, List.countP_map]; rfl
      _ ≤ l.countP (·.carries a) := List.countP_mono_left fun e _ => hg.carries
      _ ≤ s.batchCount a := hsub.countP_le
      _ ≤ Config.batchLimit := h.batch a
  oneMap e he e' he' heq hne := by
    obtain ⟨d, hd, rfl⟩ := List.mem_map.mp (hqueue ▸ he)
    obtain ⟨d', hd', rfl⟩ := List.mem_map.mp (hqueue ▸ he')
    have htag := (hg.tag d).resolve_right hne
    have htag' := (hg.tag d').resolve_right (heq ▸ hne)
    rw [hg.cell, hg.cell]
    exact h.oneMap d (hsub.subset hd) d' (hsub.subset hd') (htag.symm.trans (heq.trans htag')) (htag ▸ hne)
  member e he a ha hopen := by
    obtain ⟨d, hd, rfl⟩ := List.mem_map.mp (hqueue ▸ he)
    rw [hg.cell]
    exact hmember d hd a ha hopen
  opener := hopener

/-- The laws where the queue is unchanged, no batch has been opened and no map made DIRECT, and the state of a cell with an entry
in an open batch is as it was. -/
theorem QueueHolds.of_queue (h : QueueHolds s) (hqueue : t.queue = s.queue) (hmodes : s.KeepsDeferred t)
    (hopen : s.OpensNoBatch t)
    (hahead : ∀ n, (t.cell n).working ≠ (t.cell n).visible → (s.cell n).working ≠ (s.cell n).visible)
    (hmember : ∀ n c, (s.cell n).state = .owned c → s.cellInOpenBatch n = true → (t.cell n).state = (s.cell n).state) :
    QueueHolds t := by
  refine h.of_sublist (List.Sublist.refl _) untags_id (hqueue.trans (List.map_id _).symm)
    (fun e he => hmodes _ (h.deferred e he)) (fun n hn => ?_) (fun e he a ha hb => ?_) (h.opener_of hopen hmodes)
  · rw [State.queued_congr hqueue]
    exact h.ahead n (hahead n hn)
  · have hsb := hopen.batchOpen hb
    have hstate := h.member e he a ha hsb
    rw [hmember e.cell a.client hstate, hstate]
    have hin : s.inOpenBatch e = true := State.inOpenBatch_iff.mpr ⟨a, ha, hsb⟩
    exact List.any_eq_true.mpr ⟨e, he, by rw [hin, beq_self_eq_true]; rfl⟩

/-- The laws where the cells alone have changed, none of them one with an entry in an open batch. -/
theorem QueueHolds.of_cells (h : QueueHolds s) (hmaps : t.maps = s.maps) (hqueue : t.queue = s.queue)
    (hsessions : t.sessions = s.sessions)
    (hahead : ∀ n, (t.cell n).working ≠ (t.cell n).visible → (s.cell n).working ≠ (s.cell n).visible)
    (hmember : ∀ n c, (s.cell n).state = .owned c → s.cellInOpenBatch n = true → (t.cell n).state = (s.cell n).state) :
    QueueHolds t := by
  have hsession (c : ClientNo) : t.session c = s.session c := by rw [State.session, hsessions]; rfl
  refine h.of_queue hqueue (fun m hm => ?_) (fun c j hj => ?_) hahead hmember
  · rw [State.map, hmaps]
    exact hm
  · rw [hsession] at hj ⊢
    exact ⟨hj, rfl⟩

/-- The laws read the cells, the maps, the queue and the sessions alone. -/
theorem QueueHolds.congr (h : QueueHolds s) (hcells : t.cells = s.cells) (hmaps : t.maps = s.maps)
    (hqueue : t.queue = s.queue) (hsessions : t.sessions = s.sessions) : QueueHolds t := by
  have hcell (n : CellNo) : t.cell n = s.cell n := by rw [State.cell, hcells]; rfl
  exact h.of_cells hmaps hqueue hsessions (fun n hn => by rwa [hcell] at hn) fun n _ _ _ => by rw [hcell]

theorem QueueHolds.setCounts (h : QueueHolds s) (c : ClientNo) (owned held : Nat) : QueueHolds (s.setCounts c owned held) := by
  refine h.of_queue (s.setCounts_queue c owned held) (fun m hm => by rwa [State.map_setCounts]) (fun d j hj => ?_)
    (fun n hn => by rwa [State.cell_setCounts] at hn) fun n d _ _ => by rw [State.cell_setCounts]
  rw [State.session_setCounts] at hj ⊢
  split at hj
  next hd => subst hd; rw [if_pos rfl]; exact ⟨hj, rfl⟩
  next hd => rw [if_neg hd]; exact ⟨hj, rfl⟩

/-- A session record that opens no batch, or leaves the open one as it was, of a session in the same state. -/
theorem QueueHolds.setSession (h : QueueHolds s) {x : Session}
    (hx : ∀ j, x.openBatch = some j → (s.session c).openBatch = some j ∧ x.state = (s.session c).state) :
    QueueHolds (s.setSession c x) := by
  refine h.of_queue rfl (fun _ hm => hm) (fun d j hj => ?_) (fun _ hn => hn) fun _ _ _ _ => rfl
  rw [State.session_setSession] at hj ⊢
  split at hj
  next hd => subst hd; rw [if_pos rfl]; exact hx j hj
  next hd => rw [if_neg hd]; exact ⟨hj, rfl⟩

/-- A cell that has no entry in an open batch, or is not PRIVATE, takes another state. -/
theorem QueueHolds.become (h : QueueHolds s) (hn : s.cellInOpenBatch n = false ∨ ∀ c, (s.cell n).state ≠ .owned c)
    (x : CellState) : QueueHolds (s.setCell n ((s.cell n).become x)) := by
  refine h.of_cells rfl rfl rfl (fun j hj => ?_) fun j c hj hb => ?_
  · rw [State.cell_setCell] at hj
    split at hj
    next heq => rw [heq]; exact hj
    next => exact hj
  · rw [State.cell_setCell, if_neg]
    rintro rfl
    obtain hn | hn := hn
    · exact Bool.false_ne_true (hn.symm.trans hb)
    · exact hn c hj

theorem not_owned_of_isShared {x : Cell} (h : x.isShared = true) (c : ClientNo) : x.state ≠ .owned c := by
  obtain ⟨r, hr⟩ := Cell.isShared_iff.mp h
  simp [hr]

/-- The release procedure detaches what it releases from the open batches (R11). -/
theorem QueueHolds.release (h : QueueHolds s) (p : CellNo → Bool) : QueueHolds (s.release p) := by
  have hg : Untags fun e => if p e.cell && s.inOpenBatch e then ⟨e.cell, none⟩ else e :=
    ⟨fun e => by split <;> rfl, fun e => by split <;> simp⟩
  refine h.of_sublist (List.Sublist.refl _) hg rfl h.deferred (fun n hn => ?_) (fun e he a ha hb => ?_) h.opener
  · have hs : (s.cell n).working ≠ (s.cell n).visible := by
      rw [State.cell_release] at hn
      split at hn <;> exact hn
    obtain ⟨e, he, rfl⟩ := State.queued_iff.mp (h.ahead n hs)
    exact State.queued_iff.mpr ⟨_, List.mem_map.mpr ⟨e, he, rfl⟩, hg.cell e⟩
  · split at ha
    next => cases ha
    next hkept =>
      have hopen : s.inOpenBatch e = true := State.inOpenBatch_iff.mpr ⟨a, ha, hb⟩
      rw [State.cell_release, if_neg fun hp => hkept (by rw [hp, hopen]; rfl)]
      exact h.member e he a ha hb

theorem QueueHolds.dropReferences (h : QueueHolds s) (hshared : (s.cell n).isShared = true) (j : Nat) :
    QueueHolds (s.dropReferences n j) := by
  unfold State.dropReferences
  split
  next => exact h.release _
  next => exact h.become (.inr (not_owned_of_isShared hshared)) _

theorem QueueHolds.setHolding (h : QueueHolds s) (k : SlotNo) (x : Option Holding) : QueueHolds (s.setHolding k x) :=
  h.congr rfl rfl rfl rfl

theorem QueueHolds.removeRecord (h : QueueHolds s) {r : Holding} (hr : s.holding k = some r)
    (hshared : (s.cell r.cell).isShared = true) : QueueHolds (s.removeRecord c k) := by
  rw [s.removeRecord_eq hr]
  exact ((h.setHolding k none).dropReferences hshared _).setCounts _ _ _

/-- Entries that are taken show their cells' values (R85, R90). -/
theorem QueueHolds.takeEntries (h : QueueHolds s) (p : Entry → Bool) : QueueHolds (s.takeEntries p) := by
  refine h.of_sublist List.filter_sublist untags_id (List.map_id _).symm
    (fun e he => h.deferred e (List.mem_filter.mp he).1) (fun n hn => ?_) (fun e he a ha hb => ?_) h.opener
  · rw [State.cell_takeEntries] at hn
    split at hn
    next => exact absurd rfl hn
    next hkept =>
      obtain ⟨e, he, rfl⟩ := State.queued_iff.mp (h.ahead n hn)
      refine State.queued_iff.mpr ⟨e, List.mem_filter.mpr ⟨he, ?_⟩, rfl⟩
      by_contra hp
      exact hkept (List.any_eq_true.mpr ⟨e, he, by simpa using hp⟩)
  · have hstate := h.member e (List.mem_filter.mp he).1 a ha hb
    rw [State.cell_takeEntries]
    split <;> exact hstate

/-- Cells that keep their values, and their state where they are PRIVATE. -/
theorem QueueHolds.mapCells (h : QueueHolds s) {f : CellNo → Cell → Cell}
    (hvalues : ∀ n x, (f n x).working = x.working ∧ (f n x).visible = x.visible)
    (hstate : ∀ n c, (s.cell n).state = .owned c → (f n (s.cell n)).state = (s.cell n).state) : QueueHolds (s.mapCells f) := by
  refine h.of_cells rfl rfl rfl (fun n hn => ?_) fun n c hn _ => ?_
  · obtain ⟨hworking, hvisible⟩ := hvalues n (s.cell n)
    rwa [State.cell_mapCells, hworking, hvisible] at hn
  · rw [State.cell_mapCells]
    exact hstate n c hn

theorem QueueHolds.countdown (h : QueueHolds s) : QueueHolds s.countdown := by
  refine h.mapCells (fun n x => ⟨x.cool_working, x.cool_visible⟩) fun n c hn => ?_
  rw [Cell.cool, hn]
  exact hn

/-! ### A value set in a cell (R50, R92) -/

/-- What a placement under a tag asks: the batch is open, the cell and every member are in one map, the cell is PRIVATE to the
batch's client, and the batch has room (R75, R76). -/
structure State.Joins (s : State) (n : CellNo) (a : Tag) : Prop where
  state : (s.cell n).state = .owned a.client
  oneMap : ∀ e ∈ s.queue, e.tag = some a → mapOf e.cell = mapOf n
  room : (⟨n, some a⟩ : Entry) ∈ s.queue ∨ s.batchCount a < Config.batchLimit

theorem State.mem_queueAfter_iff {tag : Option Tag} (hmode : (s.map (mapOf n)).mode = .deferred) {e : Entry} :
    e ∈ s.queueAfter n tag ↔ (e ∈ s.queue ∧ e.cell ≠ n) ∨ e = ⟨n, tag⟩ := by
  simp [State.queueAfter, hmode]

theorem QueueHolds.length_queueAfter (h : QueueHolds s) (hroom : s.noPosition n = false)
    (hmode : (s.map (mapOf n)).mode = .deferred) (tag : Option Tag) :
    (s.queueAfter n tag).length ≤ Config.queueCapacity := by
  simp only [State.queueAfter, hmode, reduceCtorEq, if_false, List.length_append, List.length_singleton]
  obtain hqueued | hlt := State.noPosition_eq_false.mp hroom hmode
  · obtain ⟨e, he, hn⟩ := State.queued_iff.mp hqueued
    have hfewer : (s.queue.filter fun e => e.cell != n).length < s.queue.length :=
      List.length_filter_lt_length_iff_exists.mpr ⟨e, he, by simp [hn]⟩
    exact hfewer.trans_le h.length
  · exact (Nat.succ_le_succ (List.length_filter_le _ _)).trans hlt

theorem QueueHolds.countP_queueAfter (h : QueueHolds s) (hmode : (s.map (mapOf n)).mode = .deferred) {tag : Option Tag}
    (htag : ∀ a, tag = some a → s.Joins n a) (a : Tag) :
    (s.queueAfter n tag).countP (·.carries a) ≤ Config.batchLimit := by
  have hsub : (s.queue.filter fun e => e.cell != n).Sublist s.queue := List.filter_sublist
  simp only [State.queueAfter, hmode, reduceCtorEq, if_false, List.countP_append, List.countP_singleton]
  split
  next hcarries =>
    have ha : tag = some a := by simpa [Entry.carries] using hcarries
    obtain hmem | hlt := (htag a ha).room
    · have hfewer : (s.queue.filter fun e => e.cell != n).countP (·.carries a) < s.batchCount a := by
        rw [State.batchCount, List.countP_eq_length_filter, List.countP_eq_length_filter, List.filter_comm]
        exact List.length_filter_lt_length_iff_exists.mpr
          ⟨_, List.mem_filter.mpr ⟨hmem, by simp [Entry.carries]⟩, by simp⟩
      exact (Nat.succ_le_of_lt hfewer).trans (h.batch a)
    · exact (Nat.succ_le_succ hsub.countP_le).trans hlt
  next => exact hsub.countP_le.trans (h.batch a)

/-- A value set in a DEFERRED map's cell, under an open batch that it may join or as a single. A single takes the cell's entry out
of any batch. -/
theorem QueueHolds.setValue (h : QueueHolds s) {v : Colour} {tag : Option Tag} (hroom : s.noPosition n = false)
    (htag : (s.map (mapOf n)).mode = .deferred → ∀ a, tag = some a → s.Joins n a) : QueueHolds (s.setValue n v tag) := by
  have hvalues (j : CellNo) (hj : j ≠ n) : (s.setValue n v tag).cell j = s.cell j := by rw [State.cell_setValue, if_neg hj]
  have hstate (j : CellNo) : ((s.setValue n v tag).cell j).state = (s.cell j).state := by
    rw [State.cell_setValue]
    split
    next hj => rw [hj]
    next => rfl
  have hqueue : (s.setValue n v tag).queue = s.queueAfter n tag := s.setValue_queue n v tag
  cases hmode : (s.map (mapOf n)).mode with
  | direct =>
    refine h.of_cells (by simp) (by simpa [State.queueAfter, hmode] using hqueue) (by simp) (fun j hj => ?_)
      fun j _ _ _ => hstate j
    by_cases heq : j = n
    · simp [heq, State.cell_setValue, hmode] at hj
    · rwa [hvalues j heq] at hj
  | deferred =>
    have hmem {e : Entry} (he : e ∈ (s.setValue n v tag).queue) : (e ∈ s.queue ∧ e.cell ≠ n) ∨ e = ⟨n, tag⟩ :=
      (State.mem_queueAfter_iff hmode).mp (hqueue ▸ he)
    have hbatch : (s.setValue n v tag).batchOpen = s.batchOpen := State.batchOpen_congr fun d => by rw [State.session_setValue]
    refine ⟨?length, ?once, fun e he => ?modes, fun j hj => ?ahead, fun a => ?batch, fun e he e' he' heq hne => ?oneMap,
      fun e he a ha hb => ?member, fun d j hj => ?opener⟩
    case length => exact hqueue ▸ h.length_queueAfter hroom hmode tag
    case once =>
      have hsub : ((s.queue.filter fun e => e.cell != n).map Entry.cell).Nodup :=
        h.once.sublist (List.filter_sublist.map _)
      rw [hqueue, State.queueAfter, if_neg (by simp [hmode]), List.map_append, List.nodup_append]
      refine ⟨hsub, List.nodup_singleton _, fun a ha b hb heq => ?_⟩
      obtain ⟨e, he, rfl⟩ := List.mem_map.mp ha
      have hne := (List.mem_filter.mp he).2
      rw [heq, List.mem_singleton.mp hb] at hne
      simp at hne
    case modes =>
      rw [State.map_setValue]
      obtain ⟨he, -⟩ | rfl := hmem he
      · exact h.deferred e he
      · exact hmode
    case ahead =>
      rw [State.queued_iff, hqueue]
      by_cases heq : j = n
      · exact ⟨⟨n, tag⟩, (State.mem_queueAfter_iff hmode).mpr (.inr rfl), heq.symm⟩
      · rw [hvalues j heq] at hj
        obtain ⟨e, he, hcell⟩ := State.queued_iff.mp (h.ahead j hj)
        exact ⟨e, (State.mem_queueAfter_iff hmode).mpr (.inl ⟨he, hcell.trans_ne heq⟩), hcell⟩
    case batch =>
      rw [State.batchCount, hqueue]
      exact h.countP_queueAfter hmode (htag hmode) a
    case oneMap =>
      obtain ⟨a, ha⟩ := Option.ne_none_iff_exists'.mp hne
      have hjoin {d : Entry} (hd : d ∈ s.queue) (hda : d.tag = tag) (hta : tag = some a) : mapOf d.cell = mapOf n :=
        (htag hmode a hta).oneMap d hd (hda.trans hta)
      obtain ⟨hs, -⟩ | rfl := hmem he <;> obtain ⟨hs', -⟩ | rfl := hmem he'
      · exact h.oneMap e hs e' hs' heq hne
      · exact hjoin hs heq (heq.symm.trans ha)
      · exact (hjoin hs' heq.symm ha).symm
      · rfl
    case member =>
      rw [hstate]
      obtain ⟨hs, -⟩ | rfl := hmem he
      · exact h.member e hs a ha (hbatch ▸ hb)
      · exact (htag hmode a ha).state
    case opener =>
      rw [State.session_setValue] at hj ⊢
      simpa using h.opener d j hj

end Sys2Proof.Machine
end

section
/-! Proofs on the laws of the queue, continued: every effect of a command, every row, and the whole of the laws (O7, O3). -/

namespace Sys2Proof.Machine

variable {s t u : State} {c : ClientNo} {m : MapNo} {n : CellNo} {k : SlotNo} {cmd : Command}

/-! ### Batches that open -/

/-- A batch opened under a serial that no entry carries, for an OPEN client on a DEFERRED map (R78). -/
theorem QueueHolds.opensBatch (h : QueueHolds s) {b : MasterNo} {serial next : Nat}
    (hstate : (s.session c).state = .opened m b) (hmode : (s.map m).mode = .deferred)
    (hfree : s.serialFree c serial = true) :
    QueueHolds (s.setSession c { s.session c with openBatch := some serial, nextSerial := next }) where
  length := h.length
  once := h.once
  deferred := h.deferred
  ahead := h.ahead
  batch := h.batch
  oneMap := h.oneMap
  member e he a ha hb := by
    rw [State.batchOpen_iff, State.session_setSession] at hb
    split at hb
    next hc =>
      obtain ⟨client, number⟩ := a
      obtain rfl : client = c := hc
      obtain rfl : serial = number := Option.some.inj hb
      exact absurd ha (State.serialFree_iff.mp hfree e he)
    next => exact h.member e he a ha (State.batchOpen_iff.mpr hb)
  opener d j hj := by
    rw [State.session_setSession] at hj ⊢
    split at hj
    next hd =>
      rw [if_pos hd]
      exact ⟨m, b, hstate, hmode⟩
    next hd =>
      rw [if_neg hd]
      exact h.opener d j hj

/-- A client's cell may join the client's open batch (R48, R75). -/
theorem State.joins_of_openTag (hl : LedgerHolds s) (hq : QueueHolds s) (howned : (s.cell n).state = .owned c)
    (hfull : s.batchFull c n = false) {a : Tag} (ha : s.openTag c = some a) : s.Joins n a := by
  obtain ⟨j, hj, rfl⟩ := Option.map_eq_some_iff.mp ha
  refine ⟨howned, fun e he htag => ?_, State.batchFull_eq_false.mp hfull j hj⟩
  have howner := hl.owner e.cell c (hq.member e he _ htag (State.batchOpen_iff.mpr hj))
  exact Option.some.inj (howner.symm.trans (hl.owner n c howned))

/-! ### Completions -/

theorem ClientEffect.queueHolds (h : ClientEffect s c m cmd u) (hs : Lawful s)
    (hopen : (s.session c).state.openMap? = some m) : QueueHolds u := by
  have hq := hs.queue
  cases h with
  | keeps => exact hq
  | addsReference _ hshared => exact (hq.setHolding _ _).become (.inr (not_owned_of_isShared hshared)) _
  | makesRecord _ _ hshared =>
    exact ((hq.become (.inr (not_owned_of_isShared hshared)) _).setHolding _ _).setCounts _ _ _
  | @makesShared n _ _ _ hfree _ _ _ hroom =>
    have hshared := hq.become (n := n) (.inr fun c => by simp [hfree]) (.shared 1)
    exact ((hshared.setValue hroom fun _ a ha => by cases ha).setHolding _ _).setCounts _ _ _
  | dropsRecord hshared hfound =>
    obtain ⟨r, hr, -, rfl⟩ := State.holding_of_findHolding hfound
    exact hq.removeRecord hr hshared
  | dropsReference hshared => exact (hq.setHolding _ _).dropReferences hshared _
  | givesBack => exact (hq.release _).setCounts _ _ _
  | makesPublic _ _ hbatch => exact ((hq.become (.inl hbatch) _).setHolding _ _).setCounts _ _ _
  | takesRun _ _ hfree =>
    refine (hq.mapCells (fun n x => ?_) fun n d hn => ?_).setCounts _ _ _
    · split <;> exact ⟨rfl, rfl⟩
    · rw [if_neg fun hin => by simp [hfree n hin] at hn]
  | @stores n v hmap howned hbatch hroom =>
    exact hq.setValue hroom fun hmode a => State.joins_of_openTag hs.ledger hq howned (hbatch (hmap ▸ hmode))
  | opensBatch hnone hmode hserial =>
    obtain ⟨d, -, hfirst, hfree, -⟩ := s.freeSerial_first (c := c) hq.length (hs.ranges.nextSerial c).1 (hs.ranges.nextSerial c).2
    cases hstate : (s.session c).state <;> simp [hstate, SessionState.openMap?] at hopen
    subst hopen
    exact hq.opensBatch hstate hmode (by rw [← hserial, hfirst]; exact hfree)
  | closesBatch => exact hq.setSession fun j hj => by cases hj

/-- A map of which no client has an open batch has no entry in one (R75, R137). -/
theorem State.not_inOpenBatch_of_map (hl : LedgerHolds s) (hq : QueueHolds s) (hnone : s.mapHasOpenBatch m = false)
    {e : Entry} (he : e ∈ s.queue) (hmap : mapOf e.cell = m) : s.inOpenBatch e = false := by
  by_contra hin
  obtain ⟨a, ha, hb⟩ := State.inOpenBatch_iff.mp (by simpa using hin)
  have howner := hl.owner e.cell a.client (hq.member e he a ha hb)
  have hclient := lowest_eq_none.mp (Option.not_isSome_iff_eq_none.mp (by simpa [State.mapHasOpenBatch] using hnone)) a.client
  change (decide ((s.session a.client).state.map? = some m) && (s.session a.client).openBatch.isSome) = false at hclient
  simp [howner, hmap, State.batchOpen_iff.mp hb] at hclient

theorem QueueHolds.drainsMap (hl : LedgerHolds s) (hq : QueueHolds s) (hnone : s.mapHasOpenBatch m = false) (frozen : Bool) :
    QueueHolds ((s.drain m).setMap m ⟨.direct, frozen⟩) := by
  have hdrained : QueueHolds (s.drain m) := hq.takeEntries _
  have hmode (j : MapNo) (hj : j ≠ m) : (((s.drain m).setMap m ⟨.direct, frozen⟩).map j) = s.map j := by
    rw [State.map_setMap_ne _ _ _ _ hj]
    rfl
  refine hdrained.of_sublist (List.Sublist.refl _) untags_id (List.map_id _).symm (fun e he => ?_) hdrained.ahead
    hdrained.member fun c j hj => ?_
  · obtain ⟨he, hkept⟩ := List.mem_filter.mp he
    rw [hmode]
    · exact hq.deferred e he
    · intro hmap
      simp [State.drains, hmap, State.not_inOpenBatch_of_map hl hq hnone he hmap] at hkept
  · obtain ⟨m', b, hstate, hdeferred⟩ := hq.opener c j hj
    refine ⟨m', b, hstate, ?_⟩
    rw [hmode]
    · exact hdeferred
    · rintro rfl
      have hclient := lowest_eq_none.mp (Option.not_isSome_iff_eq_none.mp (by simpa [State.mapHasOpenBatch] using hnone)) c
      change (decide ((s.session c).state.map? = some m') && (s.session c).openBatch.isSome) = false at hclient
      have hj' : (s.session c).openBatch = some j := hj
      simp [hstate, SessionState.map?, hj'] at hclient

theorem QueueHolds.resetMap (h : QueueHolds s) (m : MapNo) : QueueHolds (resetMap m s) := by
  have hopen : s.OpensNoBatch (Machine.resetMap m s) := fun c j hj => by
    rw [session_resetMap] at hj ⊢
    split at hj
    next => cases hj
    next hc => rw [if_neg hc]; exact ⟨hj, rfl⟩
  refine h.of_sublist List.filter_sublist untags_id (List.map_id _).symm
    (fun e he => h.deferred e (List.mem_filter.mp he).1) (fun n hn => ?_) (fun e he a ha hb => ?_)
    (h.opener_of hopen fun _ hm => hm)
  · rw [cell_resetMap] at hn
    split at hn
    next => exact absurd (Cell.mapReset_values (h.ahead n)) hn
    next hmap =>
      obtain ⟨e, he, rfl⟩ := State.queued_iff.mp (h.ahead n hn)
      exact State.queued_iff.mpr ⟨e, List.mem_filter.mpr ⟨he, by simpa using hmap⟩, rfl⟩
  · obtain ⟨he, hmap⟩ := List.mem_filter.mp he
    rw [cell_resetMap, if_neg (by simpa using hmap)]
    exact h.member e he a ha (hopen.batchOpen hb)

theorem SupervisorEffect.queueHolds (h : SupervisorEffect s cmd u) (hs : Lawful s) : QueueHolds u := by
  have hq := hs.queue
  cases h with
  | keeps => exact hq
  | @opens c m b quota warning =>
    exact (hq.setSession (c := c) (x := .opened m b quota warning) fun j hj => by cases hj).congr rfl rfl rfl rfl
  | setsQuota => exact hq.setSession fun j hj => ⟨hj, rfl⟩
  | @closes c m b =>
    exact (hq.setSession (c := c) (x := { s.session c with state := .closing m b, openBatch := none }) fun j hj => by
      cases hj).congr rfl rfl rfl rfl
  | @fixes n _ hstate hroom =>
    have hfixed := hq.become (n := n) (.inr fun c => by obtain hs | hs := hstate <;> simp [hs]) .fixed
    exact hfixed.setValue hroom fun _ a ha => by cases ha
  | unfixes => exact hq.release _
  | resetsMap m => exact hq.resetMap m
  | drainsMap _ hnone => exact hq.drainsMap hs.ledger hnone _
  | @setsMap m mode frozen hmode =>
    refine hq.of_queue rfl (fun j hj => ?_) (State.OpensNoBatch.refl s) (fun _ hn => hn) fun _ _ _ _ => rfl
    rw [State.map_setMap]
    split
    next heq => exact hmode (heq ▸ hj)
    next => exact hj
  | flushes m =>
    refine (hq.takeEntries _).mapCells (fun n x => ?_) fun n c hn => ?_
    · split <;> exact ⟨rfl, rfl⟩
    · rw [if_neg fun hin => by simp [Cell.isCooling, hn] at hin]
  | setsCommit => exact hq.congr rfl rfl rfl rfl

/-! ### Slices -/

theorem QueueHolds.removeRecords (hq : QueueHolds s) (hl : LedgerHolds s) {ks : List SlotNo} (hnodup : ks.Nodup)
    (hks : ∀ k ∈ ks, s.recordOf c k = true) : QueueHolds (ks.foldl (fun t k => t.removeRecord c k) s) := by
  induction ks generalizing s with
  | nil => exact hq
  | cons k ks ih =>
    obtain ⟨hk, hnodup⟩ := List.nodup_cons.mp hnodup
    obtain ⟨r, hr, rfl⟩ := State.recordOf_iff.mp (hks k List.mem_cons_self)
    refine ih (hq.removeRecord hr (hl.shared_of_holding hr)) (hl.removeRecord hr) hnodup fun j hj => ?_
    rw [State.recordOf, State.holding_removeRecord, if_neg fun heq : j = k => hk (heq ▸ hj)]
    exact hks j (List.mem_cons_of_mem k hj)

theorem QueueHolds.giveBackCells (hq : QueueHolds s) (ns : List CellNo) :
    QueueHolds (ns.foldl (fun t n => t.giveBackCell c n) s) :=
  List.foldlRecOn (motive := QueueHolds) ns _ hq fun _ ht _ _ => (ht.release _).setCounts _ _ _

theorem QueueHolds.takeItems (hq : QueueHolds s) (hl : LedgerHolds s) (c : ClientNo) : QueueHolds (takeItems c s) :=
  (hq.removeRecords hl (s.sliceRecords_nodup c) fun _ => State.recordOf_of_sliceRecords).giveBackCells _

/-- A teardown ends without an open batch: its session is CLOSING, and batches are open in OPEN sessions alone (R80, R119). -/
theorem QueueHolds.endTeardown (hq : QueueHolds s) (he : EngineHolds s) (hrun : RunsSlice s c) :
    QueueHolds (endTeardown c s) := by
  have hclosing : (s.session c).state.isClosing = true := (he.closing c).mpr ⟨hrun.busy, hrun.client⟩
  refine (hq.setSession (c := c) (x := (s.session c).ended) fun j hj => ?_).congr rfl rfl rfl rfl
  obtain ⟨m, b, hopen, -⟩ := hq.opener c j hj
  simp [hopen, SessionState.isClosing] at hclosing

/-! ### Every row -/

theorem queueHolds_of_reset (hqueue : s.queue = []) (hvalues : ∀ n, (s.cell n).working = (s.cell n).visible)
    (hsessions : ∀ c, s.session c = .reset) : QueueHolds s where
  length := by rw [hqueue]; exact Nat.zero_le _
  once := by rw [hqueue]; exact List.nodup_nil
  deferred e he := by simp [hqueue] at he
  ahead n hn := absurd (hvalues n) hn
  batch a := by rw [State.batchCount, hqueue]; exact Nat.zero_le _
  oneMap e he := by simp [hqueue] at he
  member e he := by simp [hqueue] at he
  opener c j hj := by simp [hsessions, Session.reset] at hj

theorem queueHolds_powerOn (supm : MasterNo) : QueueHolds (State.powerOn supm) :=
  queueHolds_of_reset rfl (fun n => by rw [cell_powerOn]; rfl) (session_powerOn supm)

theorem Happens.queueHolds {i : Instr} (h : Happens s i t) (hs : Lawful s) : QueueHolds t := by
  have hq := hs.queue
  cases h with
  | idles => exact hq
  | client hrun heffect => exact (heffect.queueHolds hs hrun.session).congr rfl rfl rfl rfl
  | supervisor _ heffect => exact (heffect.queueHolds hs).congr rfl rfl rfl rfl
  | sliceEnds hrun => exact (hq.endTeardown hs.engine hrun).congr rfl rfl rfl rfl
  | sliceTakes => exact (hq.takeItems hs.ledger _).congr rfl rfl rfl rfl
  | boundary low high =>
    have hwatched : QueueHolds { s with blank := s.blank.watch low high } := hq.congr rfl rfl rfl rfl
    exact (hwatched.takeEntries _).countdown
  | counts => exact hq.countdown
  | resetHeld | resetReleased => exact (queueHolds_powerOn 0).congr rfl rfl rfl rfl
  | partReset => exact queueHolds_of_reset rfl (fun n => by rw [cell_partReset]; rfl) (session_powerOn s.supMaster)
  | denied =>
    rw [State.deny_eq]
    exact hq.congr rfl rfl rfl rfl
  | @takes w =>
    cases w with
    | slice => exact hq.congr rfl rfl rfl rfl
    | command w =>
      unfold State.take
      dsimp only
      split <;> exact hq.congr rfl rfl rfl rfl
  | closedOut | sliceDrops | watches | looksUp | writes | answers | accepts | clearsFault | selects | reads | inspects =>
    exact hq.congr rfl rfl rfl rfl

/-- No law reads the queue of waiting rows. -/
theorem Lawful.setPending (h : Lawful s) (rest : List Instr) : Lawful { s with pending := rest } where
  ranges := rangesHold_of_inRange (h.ranges.tables.congr rfl rfl rfl rfl)
    ⟨h.ranges.budget, h.ranges.cooling, h.ranges.more, h.ranges.position, h.ranges.capture, h.ranges.rising⟩
  engine := h.engine.of_keeps ⟨fun _ => rfl, rfl, fun _ => rfl, rfl, rfl⟩
  ledger := h.ledger.congr rfl rfl rfl
  queue := h.queue.congr rfl rfl rfl rfl

theorem Happens.lawful {i : Instr} (h : Happens s i t) (hs : Lawful s) : Lawful t :=
  ⟨h.rangesHold hs.ranges, h.engineHolds hs.engine, h.ledgerHolds hs.ledger, h.queueHolds hs⟩

/-- Settles O7: no row breaks a law of a lawful part. -/
theorem stepKeepsLaws : Obligations.StepKeepsLaws := by
  intro s t hs hstep
  obtain rfl | ⟨i, rest, hrow⟩ := step_cases hstep
  · exact hs
  · exact hrow.lawful (hs.setPending rest)

/-- Settles O3: a part with nothing in its tables meets every law. -/
theorem lawfulAtReset : Obligations.LawfulAtReset := fun supm =>
  ⟨rangesHold_of_inRange (tablesInRange_powerOn supm) (unitsInRange_powerOn supm), engineHolds_powerOn supm,
    ledgerHolds_powerOn supm, queueHolds_powerOn supm⟩

end Sys2Proof.Machine
end

section
/-! Proofs on what a row can change of a cell, a session, a visible value, the scan result and the binding of WS (O8 to O11). -/

namespace Sys2Proof.Machine

variable {s t u : State} {c : ClientNo} {m : MapNo} {n : CellNo} {k : SlotNo} {cmd : Command} {i : Instr}

/-! ### Resets of the part -/

theorem addrWindow_eq_some {addr : HostAddr} {w : WindowNo} : addrWindow addr = some w ↔ addr.toNat / 16 = w.val :=
  windowAt_eq_some

theorem not_offset_zero_of_registerWrite {addr : HostAddr} {b : MasterNo} {data : Word}
    (hform : (Instr.registerWrite addr b data).wellFormed = true) (hw : addrWindow addr = some .ws) :
    addrOffset addr ≠ 0x0 := by
  intro ho
  have hwindow : addr.toNat / 16 = 8 := addrWindow_eq_some.mp hw
  have hoffset : addr.toNat % 16 = 0 := congrArg Fin.val ho
  simp [Instr.wellFormed, writeHasOwnRow, hwindow, hoffset] at hform

/-- In its own row, a write of the code of PART_RESET by the master of WS is the row PART_RESET (R97). -/
theorem Genuine.resetsPart {b : MasterNo} {data : Word} (hi : Genuine i s)
    (haccess : accessOf i = some (.ws, b, 0x0, .write data)) (hpermitted : ¬ s.IsStranger .ws b)
    (hcode : data.setWidth 8 = (0x1F : BitVec 8)) : ResetsPart i := by
  cases i with
  | partReset b => exact .inl ⟨b, rfl⟩
  | commandWrite w b' data' =>
    cases haccess
    have hform := hi.form
    simp [Instr.wellFormed, partResetCode, hcode] at hform
  | registerWrite addr b' data' =>
    obtain ⟨w, hw, heq⟩ := Option.map_eq_some_iff.mp haccess
    simp only [Prod.mk.injEq] at heq
    obtain ⟨rfl, -, hoffset, -⟩ := heq
    exact absurd hoffset (not_offset_zero_of_registerWrite hi.form hw)
  | deniedAccess key b' o a =>
    obtain ⟨w, hw, hstranger⟩ := hi.denial key b' o a rfl
    obtain ⟨w', hw', heq⟩ := Option.map_eq_some_iff.mp haccess
    simp only [Prod.mk.injEq] at heq
    obtain ⟨rfl, rfl, -, -⟩ := heq
    rw [hw] at hw'
    cases hw'
    exact absurd hstranger hpermitted
  | _ => cases haccess

/-! ### Cells (section 1.3) -/

theorem CellState.mayBecome_self (i : Instr) (x : CellState) : x.MayBecome i x := .inl rfl

theorem CellState.mayBecome_of_eq {x y : CellState} (h : y = x) : x.MayBecome i y := .inl h.symm

/-- A PRIVATE cell is released by FREE, FREE_RUN and a slice (R51, R53, R123). -/
theorem CellState.mayBecome_released_of_owned (hi : i = .free ∨ i = .freeRun ∨ i = .teardownSlice) (setting : Nat) :
    (CellState.owned c).MayBecome i (releasedState setting) := by
  unfold releasedState
  split
  · obtain rfl | rfl | rfl := hi
    · exact .inr (.inl rfl)
    · exact .inr (.inr (.inl rfl))
    · exact .inr (.inr (.inr (.inl rfl)))
  · exact .inr hi

/-- A SHARED cell is released by FREE and a slice (R34, R123). -/
theorem CellState.mayBecome_released_of_shared (hi : i = .free ∨ i = .teardownSlice) (r setting : Nat) :
    (CellState.shared r).MayBecome i (releasedState setting) := by
  unfold releasedState
  split
  · obtain rfl | rfl := hi
    · exact .inr (.inl rfl)
    · exact .inr (.inr (.inl rfl))
  · exact .inr hi

theorem CellState.mayBecome_released_of_fixed (setting : Nat) :
    CellState.fixed.MayBecome .unfix (releasedState setting) := by
  unfold releasedState
  split
  · exact .inr (.inl rfl)
  · exact .inr rfl

/-- A reset frees every cell (R17, R18). -/
theorem CellState.mayBecome_free_of_reset (hi : ResetsPart i) (x : CellState) : x.MayBecome i .free := by
  cases x with
  | free => exact .inl rfl
  | owned => exact .inr (.inr (.inr (.inr (.inr hi))))
  | shared => exact .inr (.inr (.inr (.inr hi)))
  | fixed => exact .inr (.inr hi)
  | cooling => exact .inr (.inr (.inr (.inr (.inr hi))))

/-- A countdown lowers a COOLING cell's count (R13). -/
theorem CellState.mayBecome_cool (hi : (∃ low high, i = .blankStartEdge low high) ∨ i = .coolingExpiry) (x : Cell) :
    x.state.MayBecome i x.cool.state := by
  unfold Cell.cool
  split
  next j hj =>
    rw [hj]
    dsimp only
    split
    next => exact .inr (hi.elim .inl fun h => .inr (.inl h))
    next hmore => exact .inr ⟨hi, Nat.sub_add_cancel (Nat.le_of_not_le hmore)⟩
  next => exact .inl rfl

/-- A reference dropped from a SHARED cell by FREE (R34). -/
theorem CellState.mayBecome_dropReference (hl : LedgerHolds s) (hshared : (s.cell n).isShared = true) (k : SlotNo)
    (x : Option Holding) (n' : CellNo) :
    (s.cell n').state.MayBecome .free (((s.setHolding k x).dropReferences n 1).cell n').state := by
  obtain ⟨r, hr⟩ := Cell.isShared_iff.mp hshared
  have hrefs : (s.setHolding k x).references n = r := State.references_of_shared hr
  have hpos := hl.shared n r hr
  rw [State.cell_dropReferences, hrefs]
  split
  next heq =>
    subst heq
    rw [hr]
    change (CellState.shared r).MayBecome .free (if _ then _ else _)
    split
    next => exact CellState.mayBecome_released_of_shared (.inl rfl) r _
    next => exact .inr (.inr (.inl ⟨rfl, Nat.sub_add_cancel hpos⟩))
  next => exact CellState.mayBecome_self _ _

theorem ClientEffect.mayBecome (h : ClientEffect s c m cmd u) (hl : LedgerHolds s) (n : CellNo) :
    (s.cell n).state.MayBecome (rowOf cmd) (u.cell n).state := by
  have hself {y : CellState} (hy : y = (s.cell n).state) : (s.cell n).state.MayBecome (rowOf cmd) y :=
    CellState.mayBecome_of_eq hy
  cases h with
  | keeps => exact hself rfl
  | addsReference hcmd hshared =>
    rw [State.cell_addReference]
    split
    next heq =>
      subst heq
      obtain ⟨r, hr⟩ := Cell.isShared_iff.mp hshared
      rw [State.cell_setHolding, hr]
      exact .inr (.inl ⟨hcmd.imp (congrArg rowOf) (congrArg rowOf), congrArg (· + 1) (State.references_of_shared hr)⟩)
    next => exact hself rfl
  | makesRecord hcmd _ hshared =>
    rw [State.cell_placeRecord, State.cell_addReference]
    split
    next heq =>
      subst heq
      obtain ⟨r, hr⟩ := Cell.isShared_iff.mp hshared
      rw [hr]
      exact .inr (.inl ⟨hcmd.imp (congrArg rowOf) (congrArg rowOf), congrArg (· + 1) (State.references_of_shared hr)⟩)
    next => exact hself rfl
  | makesShared _ hfree =>
    rw [State.cell_placeRecord, State.cell_setValue]
    split
    next heq =>
      subst heq
      rw [hfree, State.cell_setCell_self]
      exact .inr ⟨rfl, rfl⟩
    next hne => rw [State.cell_setCell_ne _ _ _ _ hne]; exact hself rfl
  | dropsRecord hshared hfound hlast =>
    obtain ⟨r, hr, rfl, rfl⟩ := State.holding_of_findHolding hfound
    rw [State.recordCount_of_holding hr] at hlast
    have hone : r.count = 1 := Nat.le_antisymm hlast (hl.record _ r hr).1
    rw [s.removeRecord_eq hr, State.cell_setCounts, hone]
    exact CellState.mayBecome_dropReference hl hshared _ _ n
  | dropsReference hshared => exact CellState.mayBecome_dropReference hl hshared _ _ n
  | givesBack hcmd howned =>
    rw [State.giveBack, State.cell_setCounts, State.cell_release]
    split
    next hp =>
      rw [howned n hp]
      exact CellState.mayBecome_released_of_owned (hcmd.imp (congrArg rowOf) fun h => .inl (congrArg rowOf h)) _
    next => exact hself rfl
  | makesPublic _ howned =>
    rw [makePublic, State.cell_setCounts, State.cell_setHolding, State.cell_setCell]
    split
    next heq =>
      subst heq
      rw [howned]
      exact .inr ⟨rfl, rfl⟩
    next => exact hself rfl
  | takesRun _ _ hfree =>
    rw [takeRun, State.cell_setCounts, State.cell_mapCells]
    split
    next hin =>
      rw [hfree n hin]
      exact .inr rfl
    next => exact hself rfl
  | stores =>
    rw [State.cell_setValue]
    split
    next heq => rw [heq]; exact CellState.mayBecome_self _ _
    next => exact hself rfl
  | opensBatch | closesBatch => exact hself rfl

theorem SupervisorEffect.mayBecome (h : SupervisorEffect s cmd u) (n : CellNo) :
    (s.cell n).state.MayBecome (rowOf cmd) (u.cell n).state := by
  have hdrain (p : Entry → Bool) : ((s.takeEntries p).cell n).state = (s.cell n).state := by
    rw [State.cell_takeEntries]
    split <;> rfl
  cases h with
  | fixes hstate =>
    rw [State.cell_fixCell]
    split
    next heq =>
      subst heq
      obtain hs | hs := hstate
      · rw [hs]
        exact .inr rfl
      · rw [hs]
        exact .inl rfl
    next => exact CellState.mayBecome_self _ _
  | unfixes hstate =>
    rw [State.cell_release]
    split
    next heq =>
      rw [beq_iff_eq.mp heq, hstate]
      exact CellState.mayBecome_released_of_fixed _
    next => exact CellState.mayBecome_self _ _
  | resetsMap m =>
    rw [cell_resetMap]
    split
    next =>
      unfold Cell.mapReset
      dsimp only
      split
      next hfixed => rw [hfixed]; exact CellState.mayBecome_self _ _
      next hne =>
        cases hs : (s.cell n).state with
        | free => exact .inl rfl
        | owned => exact .inr (.inr (.inr (.inr (.inl rfl))))
        | shared => exact .inr (.inr (.inr (.inl rfl)))
        | fixed => exact absurd hs hne
        | cooling => exact .inr (.inr (.inr (.inr (.inl rfl))))
    next => exact CellState.mayBecome_self _ _
  | @drainsMap m => exact CellState.mayBecome_of_eq (hdrain (s.drains m))
  | flushes m =>
    rw [endCooling, State.cell_mapCells]
    split
    next hin =>
      obtain ⟨j, hj⟩ := Cell.isCooling_iff.mp (Bool.and_eq_true_iff.mp hin).2
      rw [← hdrain (s.drains m), ← State.drain, hj]
      exact .inr (.inr (.inr (.inl rfl)))
    next => exact CellState.mayBecome_of_eq (hdrain (s.drains m))
  | keeps | opens | setsQuota | closes | setsMap | setsCommit => exact CellState.mayBecome_self _ _

/-- A slice releases what the client owns, and takes references off what its records name (R123). -/
theorem TakesItems.mayBecome {ks : List SlotNo} {ns : List CellNo} (h : TakesItems s c ks ns t) (hl : LedgerHolds s)
    (hns : ∀ n ∈ ns, (s.cell n).state = .owned c) (n : CellNo) :
    (s.cell n).state.MayBecome .teardownSlice (t.cell n).state := by
  rw [h.cell]
  cases hnamed : ks.any (s.namesAt n) with
  | true =>
    obtain ⟨k, hk, hname⟩ := List.any_eq_true.mp hnamed
    unfold State.namesAt at hname
    split at hname
    next => cases hname
    next r hr =>
      obtain rfl := beq_iff_eq.mp hname
      obtain ⟨refs, hrefs⟩ := Cell.isShared_iff.mp (hl.shared_of_holding hr)
      rw [hrefs]
      split
      next => exact CellState.mayBecome_released_of_shared (.inr rfl) _ _
      next =>
        have hcount : s.countAt r.cell k ≤ s.countOver ks r.cell :=
          List.single_le_sum (fun _ _ => Nat.zero_le _) _ (List.mem_map_of_mem hk)
        rw [State.countAt_of_holding hr, if_pos rfl] at hcount
        have hone := (hl.record k r hr).1
        have hpos := hl.shared _ _ hrefs
        refine .inr (.inr (.inr ⟨rfl, ?_⟩))
        rw [State.references_of_shared hrefs]
        omega
  | false =>
    split
    next hreleased =>
      have hn : n ∈ ns := by simpa [State.releasedBy, hnamed] using hreleased
      rw [hns n hn]
      exact CellState.mayBecome_released_of_owned (.inr (.inr rfl)) _
    next => exact CellState.mayBecome_self _ _

theorem Happens.cell_mayBecome (h : Happens s i t) (hl : LedgerHolds s) (hi : Genuine i s) (n : CellNo) :
    (s.cell n).state.MayBecome i (t.cell n).state := by
  have hself {i : Instr} : (s.cell n).state.MayBecome i (s.cell n).state := CellState.mayBecome_self _ _
  cases h with
  | client _ heffect => exact heffect.mayBecome hl n
  | supervisor _ heffect => exact heffect.mayBecome n
  | sliceTakes => exact (takesItems_takeItems s _).mayBecome hl (fun _ => State.owned_of_sliceCells) n
  | boundary low high =>
    have htaken : (({ s with blank := s.blank.watch low high } : State).commit.cell n).state = (s.cell n).state := by
      rw [State.commit, State.cell_takeEntries]
      split <;> rfl
    rw [State.cell_countdown, ← htaken]
    exact CellState.mayBecome_cool (.inl ⟨low, high, rfl⟩) _
  | counts => rw [State.cell_countdown]; exact CellState.mayBecome_cool (.inr rfl) _
  | resetHeld =>
    change (s.cell n).state.MayBecome _ ((State.powerOn s.supMaster).cell n).state
    rw [cell_powerOn]
    exact CellState.mayBecome_free_of_reset (.inr (.inl rfl)) _
  | @resetReleased supm =>
    change (s.cell n).state.MayBecome _ ((State.powerOn supm).cell n).state
    rw [cell_powerOn]
    exact CellState.mayBecome_free_of_reset (.inr (.inr ⟨supm, rfl⟩)) _
  | partReset haccess hpermitted hcode =>
    rw [cell_partReset]
    exact CellState.mayBecome_free_of_reset (hi.resetsPart haccess hpermitted hcode) _
  | denied => rw [State.deny_eq]; exact hself
  | @takes w =>
    cases w with
    | slice => exact hself
    | command w =>
      unfold State.take
      dsimp only
      split <;> exact hself
  | idles | closedOut | sliceDrops | sliceEnds | watches | looksUp | writes | answers | accepts | clearsFault | selects | reads
  | inspects => exact hself

/-- Settles O8: every change of a cell's state is one of the table's. -/
theorem cellTransitions : Obligations.CellTransitions := fun _ _ _ n hl hi hexec =>
  (happens_of_exec hexec).cell_mayBecome hl hi n

/-! ### Sessions (R112) -/

/-- A reset closes every session (R112). -/
theorem SessionState.mayBecome_closed_of_reset (hi : ResetsPart i) (x : SessionState) : x.MayBecome i .closed := by
  cases x with
  | closed => exact .inl rfl
  | opened => exact .inr hi
  | closing => exact .inr (.inr hi)

theorem SupervisorEffect.session_mayBecome (h : SupervisorEffect s cmd u) (d : ClientNo) :
    (s.session d).state.MayBecome (rowOf cmd) (u.session d).state := by
  have hself : (s.session d).state.MayBecome (rowOf cmd) (s.session d).state := .inl rfl
  cases h with
  | opens hclosed =>
    rw [State.session_setWindow, State.session_setSession]
    split
    next hd =>
      rw [hd, hclosed]
      exact .inr rfl
    next => exact hself
  | setsQuota =>
    rw [State.session_setSession]
    split
    next hd => rw [hd]; exact .inl rfl
    next => exact hself
  | closes hopen =>
    rw [session_closeSession]
    split
    next hd =>
      rw [hd, hopen]
      exact .inr ⟨rfl, rfl, rfl⟩
    next => exact hself
  | fixes =>
    rw [State.fixCell, State.session_setValue]
    exact hself
  | resetsMap m => rw [state_session_resetMap]; exact hself
  | keeps | unfixes | drainsMap | setsMap | flushes | setsCommit => exact hself

theorem Happens.session_mayBecome (h : Happens s i t) (he : EngineHolds s) (hi : Genuine i s) (d : ClientNo) :
    (s.session d).state.MayBecome i (t.session d).state := by
  have hself {i : Instr} : (s.session d).state.MayBecome i (s.session d).state := .inl rfl
  cases h with
  | client _ heffect => exact .inl (heffect.keepsEngine.states d).symm
  | supervisor _ heffect => exact heffect.session_mayBecome d
  | @sliceEnds c hrun =>
    change (s.session d).state.MayBecome _ ((s.setSession c (s.session c).ended).session d).state
    rw [State.session_setSession]
    split
    next hd =>
      have hclosing := (he.closing c).mpr ⟨hrun.busy, hrun.client⟩
      subst hd
      cases hs : (s.session d).state with
      | closing => exact .inr (.inl rfl)
      | _ => simp [hs, SessionState.isClosing] at hclosing
    next => exact hself
  | sliceTakes => exact .inl (((takesItems_takeItems s _).keepsEngine (takeItems_work s _)).states d).symm
  | resetHeld =>
    change (s.session d).state.MayBecome _ ((State.powerOn s.supMaster).session d).state
    rw [session_powerOn]
    exact SessionState.mayBecome_closed_of_reset (.inr (.inl rfl)) _
  | @resetReleased supm =>
    change (s.session d).state.MayBecome _ ((State.powerOn supm).session d).state
    rw [session_powerOn]
    exact SessionState.mayBecome_closed_of_reset (.inr (.inr ⟨supm, rfl⟩)) _
  | partReset haccess hpermitted hcode =>
    change (s.session d).state.MayBecome _ ((State.powerOn s.supMaster).session d).state
    rw [session_powerOn]
    exact SessionState.mayBecome_closed_of_reset (hi.resetsPart haccess hpermitted hcode) _
  | denied => exact .inl ((keepsEngine_deny s _ _ _ _).states d).symm
  | @takes w =>
    cases w with
    | slice => exact hself
    | command w =>
      unfold State.take
      dsimp only
      split <;> exact hself
  | idles | closedOut | sliceDrops | boundary | counts | watches | looksUp | writes | answers | accepts | clearsFault | selects
  | reads | inspects => exact hself

/-- Settles O9: every change of a session's state is one of the table's. -/
theorem sessionTransitions : Obligations.SessionTransitions := fun _ _ _ d he hi hexec =>
  (happens_of_exec hexec).session_mayBecome he hi d

/-! ### Visible values (section 9.2) -/

/-- A row may change the visible value of a cell: it is a frame boundary, a drain, a write while the cell's map is DIRECT, or an
event of power-on reset. -/
def State.MayShow (s : State) (n : CellNo) (i : Instr) : Prop :=
  (∃ low high, i = .blankStartEdge low high) ∨ i = .flush ∨ i = .mapMode ∨
    ((i = .store ∨ i = .allocShared ∨ i = .fix) ∧ (s.map (mapOf n)).mode = .direct) ∨
      i = .powerOnReset ∨ ∃ supm, i = .resetRelease supm

/-- A value set in a cell is shown at once in a DIRECT map alone (R92). -/
theorem State.visible_setValue (s : State) (n : CellNo) (v : Colour) (tag : Option Tag) (j : CellNo) :
    ((s.setValue n v tag).cell j).visible = (s.cell j).visible ∨ (s.map (mapOf j)).mode = .direct := by
  rw [State.cell_setValue]
  split
  next hj =>
    subst hj
    by_cases hmode : (s.map (mapOf j)).mode = .direct
    · exact .inr hmode
    · exact .inl (if_neg hmode)
  next => exact .inl rfl

theorem State.visible_release (s : State) (p : CellNo → Bool) (n : CellNo) :
    ((s.release p).cell n).visible = (s.cell n).visible := by
  rw [State.cell_release]
  split <;> rfl

theorem State.visible_become (s : State) (j : CellNo) (x : CellState) (n : CellNo) :
    ((s.setCell j ((s.cell j).become x)).cell n).visible = (s.cell n).visible := by
  rw [State.cell_setCell]
  split
  next hn => rw [hn]; rfl
  next => rfl

theorem State.visible_dropReferences (s : State) (j : CellNo) (count : Nat) (n : CellNo) :
    ((s.dropReferences j count).cell n).visible = (s.cell n).visible := by
  unfold State.dropReferences
  split
  next => exact s.visible_release _ n
  next => exact s.visible_become j _ n

theorem State.visible_removeRecord (s : State) (c : ClientNo) (k : SlotNo) (n : CellNo) :
    ((s.removeRecord c k).cell n).visible = (s.cell n).visible := by
  unfold State.removeRecord
  split
  next => rfl
  next => rw [State.cell_setCounts]; exact State.visible_dropReferences _ _ _ n

theorem ClientEffect.visible (h : ClientEffect s c m cmd u) (n : CellNo) :
    (u.cell n).visible = (s.cell n).visible ∨ s.MayShow n (rowOf cmd) := by
  cases h with
  | keeps | opensBatch | closesBatch => exact .inl rfl
  | addsReference => exact .inl (s.visible_become _ _ n)
  | makesRecord => rw [State.cell_placeRecord]; exact .inl (s.visible_become _ _ n)
  | @makesShared j _ v =>
    rw [State.cell_placeRecord]
    obtain hkept | hdirect := (s.setCell j ((s.cell j).become (.shared 1))).visible_setValue j v none n
    · exact .inl (hkept.trans (s.visible_become _ _ n))
    · exact .inr (.inr (.inr (.inr (.inl ⟨.inr (.inl rfl), hdirect⟩))))
  | dropsRecord => exact .inl (s.visible_removeRecord _ _ n)
  | dropsReference => exact .inl (State.visible_dropReferences _ _ _ n)
  | givesBack => rw [State.giveBack, State.cell_setCounts]; exact .inl (s.visible_release _ n)
  | makesPublic => rw [makePublic, State.cell_setCounts]; exact .inl (s.visible_become _ _ n)
  | takesRun =>
    rw [takeRun, State.cell_setCounts, State.cell_mapCells]
    split <;> exact .inl rfl
  | stores =>
    obtain hkept | hdirect := s.visible_setValue _ _ _ n
    · exact .inl hkept
    · exact .inr (.inr (.inr (.inr (.inl ⟨.inl rfl, hdirect⟩))))

theorem SupervisorEffect.visible (h : SupervisorEffect s cmd u) (n : CellNo) :
    (u.cell n).visible = (s.cell n).visible ∨ s.MayShow n (rowOf cmd) := by
  cases h with
  | @fixes j v =>
    obtain hkept | hdirect := (s.setCell j ((s.cell j).become .fixed)).visible_setValue j v none n
    · exact .inl (hkept.trans (s.visible_become _ _ n))
    · exact .inr (.inr (.inr (.inr (.inl ⟨.inr (.inr rfl), hdirect⟩))))
  | unfixes => exact .inl (s.visible_release _ n)
  | resetsMap m =>
    rw [cell_resetMap]
    split <;> exact .inl rfl
  | drainsMap => exact .inr (.inr (.inr (.inl rfl)))
  | flushes => exact .inr (.inr (.inl rfl))
  | keeps | opens | setsQuota | closes | setsMap | setsCommit => exact .inl rfl

theorem takeItems_visible (s : State) (c : ClientNo) (n : CellNo) :
    ((takeItems c s).cell n).visible = (s.cell n).visible := by
  rw [(takesItems_takeItems s c).cell]
  split
  next => rfl
  next => split <;> rfl

theorem Happens.visible (h : Happens s i t) (n : CellNo) : (t.cell n).visible = (s.cell n).visible ∨ s.MayShow n i := by
  cases h with
  | client _ heffect => exact heffect.visible n
  | supervisor _ heffect => exact heffect.visible n
  | sliceTakes => exact .inl (takeItems_visible s _ n)
  | watches low high | boundary low high => exact .inr (.inl ⟨low, high, rfl⟩)
  | counts => rw [State.cell_countdown, Cell.cool_visible]; exact .inl rfl
  | resetHeld => exact .inr (.inr (.inr (.inr (.inr (.inl rfl)))))
  | @resetReleased supm => exact .inr (.inr (.inr (.inr (.inr (.inr ⟨supm, rfl⟩)))))
  | partReset => rw [cell_partReset]; exact .inl rfl
  | denied => rw [State.deny_eq]; exact .inl rfl
  | @takes w =>
    cases w with
    | slice => exact .inl rfl
    | command w =>
      unfold State.take
      dsimp only
      split <;> exact .inl rfl
  | idles | closedOut | sliceDrops | sliceEnds | looksUp | writes | answers | accepts | clearsFault | selects | reads
  | inspects => exact .inl rfl

/-- Settles O10: a row that may not show a value leaves the visible values. -/
theorem visibleChanges : Obligations.VisibleChanges := fun _ _ _ n hexec hne =>
  ((happens_of_exec hexec).visible n).resolve_left hne

/-! ### The scan result and the binding of WS (R128, R147) -/

/-- The scan result, the binding of WS and the queue of waiting rows are unchanged. -/
structure KeepsPorts (s t : State) : Prop where
  scanResult : t.scanResult = s.scanResult
  supMaster : t.supMaster = s.supMaster
  pending : t.pending = s.pending

theorem keepsPorts_refl (s : State) : KeepsPorts s s := ⟨rfl, rfl, rfl⟩

theorem KeepsRest.keepsPorts (h : KeepsRest s t) : KeepsPorts s t := ⟨h.scanResult, h.supMaster, h.pending⟩

theorem SupervisorEffect.keepsPorts (h : SupervisorEffect s cmd u) : KeepsPorts s u := by
  cases h with
  | fixes => exact (s.keepsRest_fixCell _ _).keepsPorts
  | _ => exact ⟨rfl, rfl, rfl⟩

/-- A row leaves the scan result, the binding of WS and the queue of waiting rows, but for a lookup and the events of power-on
reset. -/
theorem Happens.keepsPorts (h : Happens s i t) :
    KeepsPorts s t ∨ t.pending = s.pending ∧
      (t.supMaster = s.supMaster ∧ ((∃ m x low period, i = .lookup m x low period) ∨ i = .powerOnReset) ∨
        s.resetHeld = true ∧ i = .resetRelease t.supMaster) := by
  have hself : KeepsPorts s s := keepsPorts_refl s
  cases h with
  | client _ heffect => exact .inl ⟨heffect.keepsRest.scanResult, heffect.keepsRest.supMaster, heffect.keepsRest.pending⟩
  | supervisor _ heffect =>
    exact .inl ⟨heffect.keepsPorts.scanResult, heffect.keepsPorts.supMaster, heffect.keepsPorts.pending⟩
  | @sliceTakes c =>
    have hrest := (takesItems_takeItems s c).counts.rest
    exact .inl ⟨hrest.scanResult, hrest.supMaster, hrest.pending⟩
  | looksUp m x low period => exact .inr ⟨rfl, .inl ⟨rfl, .inl ⟨m, x, low, period, rfl⟩⟩⟩
  | resetHeld => exact .inr ⟨rfl, .inl ⟨rfl, .inr rfl⟩⟩
  | resetReleased hheld => exact .inr ⟨rfl, .inr ⟨hheld, rfl⟩⟩
  | denied => rw [State.deny_eq]; exact .inl ⟨rfl, rfl, rfl⟩
  | @takes w =>
    cases w with
    | slice => exact .inl ⟨rfl, rfl, rfl⟩
    | command w =>
      unfold State.take
      dsimp only
      split <;> exact .inl ⟨rfl, rfl, rfl⟩
  | idles | closedOut | sliceDrops | sliceEnds | watches | boundary | counts | partReset | writes | answers | accepts
  | clearsFault | selects | reads | inspects => exact .inl ⟨rfl, rfl, rfl⟩

/-- Settles O11: the rows that change the scan result or the binding of WS are those that `Happens.keepsPorts` leaves. -/
theorem scanAndBindingChanges : Obligations.ScanAndBindingChanges := by
  refine ⟨fun i s t hexec hne => ?_, fun i s t hexec hne => ?_⟩
  · obtain hkeeps | ⟨-, ⟨-, hlookup | hheld⟩ | ⟨-, hrelease⟩⟩ := (happens_of_exec hexec).keepsPorts
    · exact absurd hkeeps.scanResult hne
    · exact .inl hlookup
    · exact .inr (.inl hheld)
    · exact .inr (.inr ⟨_, hrelease⟩)
  · obtain hkeeps | ⟨-, ⟨hsame, -⟩ | hrelease⟩ := (happens_of_exec hexec).keepsPorts
    · exact absurd hkeeps.supMaster hne
    · exact absurd hsame hne
    · exact hrelease

/-! ### Every row is answered (O2) -/

/-- The rows whose meaning looks at the state before it answers: they answer a next state on every branch. -/
theorem exec_answers (i : Instr) (s : State) : ∃ t, exec i s = .next t := by
  cases i with
  | engineTake =>
    change ∃ t, execEngineTake s = .next t
    unfold execEngineTake
    split
    next => exact ⟨_, rfl⟩
    next => split <;> exact ⟨_, rfl⟩
  | teardownSlice =>
    change ∃ t, execTeardownSlice s = .next t
    unfold execTeardownSlice
    split
    next => exact ⟨_, rfl⟩
    next => split <;> exact ⟨_, rfl⟩
  | blankStartEdge low high =>
    change ∃ t, execBlankStartEdge low high s = .next t
    unfold execBlankStartEdge
    split <;> exact ⟨_, rfl⟩
  | coolingExpiry =>
    change ∃ t, execCoolingExpiry s = .next t
    unfold execCoolingExpiry
    split <;> exact ⟨_, rfl⟩
  | lookup m x low period =>
    change ∃ t, execLookup m x low period s = .next t
    unfold execLookup
    split <;> exact ⟨_, rfl⟩
  | resetRelease supm =>
    change ∃ t, execResetRelease supm s = .next t
    unfold execResetRelease
    split <;> exact ⟨_, rfl⟩
  | _ => exact ⟨_, rfl⟩

/-- Settles O2: every row is answered, and none reads or changes the queue of waiting rows. -/
theorem noCommandStops : Obligations.NoCommandStops := by
  intro i s
  obtain ⟨t, hexec⟩ := exec_answers i s
  refine ⟨t, hexec, ?_⟩
  obtain hkeeps | ⟨hpending, -⟩ := (happens_of_exec hexec).keepsPorts
  · exact hkeeps.pending
  · exact hpending

/-- Settles O1: the two branches of `step`. -/
theorem stepTakesTheFront : Obligations.StepTakesTheFront := by
  refine ⟨fun i rest s hqueue => ?_, fun s hqueue => ?_⟩
  · rw [step, hqueue]
  · rw [step, hqueue]

end Sys2Proof.Machine
end

section
/-! Proofs on the searches (R22, R41, R58, R59) and on the client commands on shared cells: the refusals of ALLOC_SHARED, FREE and
PUBLISH in their check order, and what each makes of the state where its checks pass. -/

namespace Sys2Proof.Machine

variable {s : State} {c : ClientNo} {m : MapNo} {h : Held} {n : CellNo} {k : SlotNo} {i : Index} {v : Colour}

/-! ### Searches -/

/-- The search of a map finds its lowest cell that meets the condition. -/
theorem State.lowestIn_eq_some_iff {p : Cell → Bool} :
    s.lowestIn m p = some n ↔ (mapOf n = m ∧ p (s.cell n) = true) ∧ ∀ j < n, mapOf j = m → p (s.cell j) = false := by
  have hsearch := lowest_eq_some (p := fun n x => mapOf n == m && p x) (t := s.cells) (i := n)
  simp only [Bool.and_eq_true, beq_iff_eq, Bool.and_eq_false_iff, beq_eq_false_iff_ne, ← imp_iff_not_or] at hsearch
  exact hsearch

theorem State.findHolding_eq_some_iff (hl : LedgerHolds s) :
    s.findHolding c n = some k ↔ ∃ r, s.holding k = some r ∧ r.client = c ∧ r.cell = n := by
  refine ⟨State.holding_of_findHolding, fun ⟨r, hr, hclient, hcell⟩ => ?_⟩
  cases hfound : s.findHolding c n with
  | none => exact absurd hcell (State.findHolding_eq_none.mp hfound k r hr hclient)
  | some k' =>
    obtain ⟨r', hr', hclient', hcell'⟩ := State.holding_of_findHolding hfound
    rw [hl.oneRecord k' k r' r hr' hr (hclient'.trans hclient.symm) (hcell'.trans hcell.symm)]

theorem State.emptySlot_eq_some_iff : s.emptySlot = some k ↔ s.holding k = none ∧ ∀ k' < k, s.holding k' ≠ none := by
  have hsearch := lowest_eq_some (p := fun _ (x : Option Holding) => x.isNone) (t := s.holdings) (i := k)
  simp only [Option.isNone_iff_eq_none, Option.isNone_eq_false_iff, Option.isSome_iff_ne_none] at hsearch
  exact hsearch

/-- Settles O14: each search by the lemma about it. -/
theorem searchesFindTheLowest : Obligations.SearchesFindTheLowest := by
  refine ⟨fun s m k v n => ?_, fun s c n => State.findHolding_eq_none, fun s c n k hl => State.findHolding_eq_some_iff hl,
    fun s k => State.emptySlot_eq_some_iff, fun s m count align ok first hcount => State.findRun_eq_some hcount⟩
  rw [State.findMatch, State.lowestIn_eq_some_iff, Bool.and_eq_true]
  simp only [← Bool.not_eq_true, Bool.and_eq_true, not_and]

/-- No cell of a map is FREE exactly where the search for one fails. -/
theorem State.lowestIn_free_eq_none : s.lowestIn m Cell.isFree = none ↔ ∀ i, (s.cell (cellOf m i)).state ≠ .free := by
  simp [State.lowestIn_eq_none, Cell.isFree]

theorem State.lowestIn_free_eq_some (hfree : (s.cell (cellOf m i)).state = .free)
    (hlow : ∀ j < i, (s.cell (cellOf m j)).state ≠ .free) : s.lowestIn m Cell.isFree = some (cellOf m i) :=
  State.lowestIn_eq_some.mpr ⟨Cell.isFree_iff.mpr hfree, fun j hj => by simpa [Cell.isFree] using hlow j hj⟩

theorem State.exists_emptySlot (hempty : ∃ k, s.holding k = none) : ∃ k, s.emptySlot = some k := by
  obtain ⟨k, hk⟩ := hempty
  exact Option.ne_none_iff_exists'.mp fun hnone => State.emptySlot_eq_none.mp hnone k hk

/-! ### Refusals -/

/-- A body that answers a refusal over the state as it was refuses, once its result is posted (R105, R106). -/
theorem State.refuses_of_eq {x : State × Reply} {r : ResultCode} (hx : x = (s, .refusal r)) (w : WindowNo) (cmd : Command) :
    Refuses s (x.1.post w cmd x.2) w cmd r := by
  rw [hx]
  exact s.refuses_post w cmd r

/-! ### ALLOC_SHARED with no match (R21, R26 to R29) -/

theorem allocShared_of_frozen (hf : (s.map m).frozen = true) : allocShared c m h s = (s, .refusal .mapFrozen) := by
  simp [allocShared, hf]

theorem allocShared_of_bad_argument (hf : (s.map m).frozen = false) (hbad : 6 < h.arg1.toNat ∨ bits 31 30 h.arg0 ≠ 0) :
    allocShared c m h s = (s, .refusal .badArgument) := by
  unfold allocShared Config.coarsenessLimit
  rw [hf, if_neg Bool.false_ne_true]
  split
  next => rfl
  next hcoarse => rw [colourArg_eq_none.mpr (hbad.resolve_left hcoarse)]

/-- ALLOC_SHARED that passes its argument checks and finds no cell makes one (R21, R26). -/
theorem allocShared_of_no_match (hf : (s.map m).frozen = false) (hc : h.arg1.toNat ≤ 6) (hv : colourArg h.arg0 = some v)
    (hm : s.findMatch m h.arg1.toNat v = none) : allocShared c m h s = makeShared c m v s := by
  have hlim : ¬ Config.coarsenessLimit < h.arg1.toNat := Nat.not_lt.mpr hc
  simp [allocShared, hf, hlim, hv, hm]

theorem makeShared_of_over_quota (hq : (s.session c).quota < (s.session c).charge + 1) :
    makeShared c m v s = (s, .refusal .quota) := by
  simp [makeShared, Session.exceedsQuota, hq]

theorem makeShared_of_full (hq : (s.session c).charge + 1 ≤ (s.session c).quota) (hslot : s.emptySlot = none) :
    makeShared c m v s = (s, .refusal .holdingsFull) := by
  simp [makeShared, Session.exceedsQuota_eq_false.mpr hq, hslot]

theorem makeShared_of_no_free (hq : (s.session c).charge + 1 ≤ (s.session c).quota) (hslot : s.emptySlot = some k)
    (hnone : s.lowestIn m Cell.isFree = none) :
    makeShared c m v s = (s, .refusal (if (s.lowestIn m Cell.isCooling).isSome then .coolingWait else .noSpace)) := by
  simp [makeShared, Session.exceedsQuota_eq_false.mpr hq, hslot, hnone]

/-- The state after an ALLOC_SHARED that makes a cell (R27 to R29). -/
def State.shareCell (c : ClientNo) (n : CellNo) (v : Colour) (k : SlotNo) (s : State) : State :=
  ((s.setCell n ((s.cell n).become (.shared 1))).setValue n v none).placeRecord c n k

theorem makeShared_of_free (hq : (s.session c).charge + 1 ≤ (s.session c).quota) (hslot : s.emptySlot = some k)
    (hfree : s.lowestIn m Cell.isFree = some n) :
    makeShared c m v s =
      if s.noPosition n then (s, .refusal .queueFull) else (s.shareCell c n v k, .reference (indexOf n) true v) := by
  simp only [makeShared, Session.exceedsQuota_eq_false.mpr hq, hslot, hfree, Bool.false_eq_true, if_false]
  rfl

/-- Settles O18: the refusals in the check order of R21, and where no cell matches in that of R26. -/
theorem allocSharedRefuses : Obligations.AllocSharedRefuses := by
  intro s c m h hr hcmd
  refine ⟨_, exec_allocShared_of_runs hr hcmd, fun hf => s.refuses_of_eq (allocShared_of_frozen hf) _ _,
    fun hf => ⟨fun hbad => s.refuses_of_eq (allocShared_of_bad_argument hf hbad) _ _, fun v hc hv hm => ?_⟩⟩
  rw [allocShared_of_no_match hf hc hv hm]
  refine ⟨fun hq => s.refuses_of_eq (makeShared_of_over_quota hq) _ _,
    fun hq => ⟨fun hfull => s.refuses_of_eq (makeShared_of_full hq (State.emptySlot_eq_none.mpr hfull)) _ _,
      fun hempty => ?_⟩⟩
  obtain ⟨k, hslot⟩ := State.exists_emptySlot hempty
  refine ⟨fun hnone => ?_, fun i hfree hlow hmode hqueued hfull => ?_⟩
  · rw [makeShared_of_no_free hq hslot (State.lowestIn_free_eq_none.mpr hnone)]
    refine ⟨fun ⟨i, hi⟩ => ?_, fun hnot => ?_⟩
    · have hsome : s.lowestIn m Cell.isCooling ≠ none := fun hnone' =>
        Bool.false_ne_true ((State.lowestIn_eq_none.mp hnone' i).symm.trans hi)
      rw [if_pos (Option.isSome_iff_ne_none.mpr hsome)]
      exact s.refuses_post _ _ _
    · rw [State.lowestIn_eq_none.mpr hnot, if_neg (by simp)]
      exact s.refuses_post _ _ _
  · have hpos : s.noPosition (cellOf m i) = true :=
      State.noPosition_eq_true.mpr ⟨(mapOf_cellOf m i).symm ▸ hmode, hqueued, hfull⟩
    rw [makeShared_of_free hq hslot (State.lowestIn_free_eq_some hfree hlow), hpos]
    exact s.refuses_post _ _ _

/-- A new cell is reported NEW and not REUSED (R27). -/
theorem Reply.reference_new (i : Index) (v : Colour) :
    Reply.reference i true v = .ok (field 7 0 i.val ||| flag 9 true) (colourWord v) := by
  have hreused : flag 8 (!true) = 0#32 := by decide
  rw [Reply.reference, hreused, BitVec.or_zero]

/-- Settles O20: the checks leave `shareCell`, whose value is set by the rule of R28 and R29. -/
theorem allocSharedMakes : Obligations.AllocSharedMakes := by
  intro s c m h v k i hr hcmd hf hc hv hm hq hslot hfree hlow hroom
  have hpos : s.noPosition (cellOf m i) = false := 
    State.noPosition_eq_false.mpr fun hmode => hroom (mapOf_cellOf m i ▸ hmode)
  refine ⟨_, exec_allocShared_of_runs hr hcmd, ?_⟩
  rw [allocShared_of_no_match hf hc hv hm, makeShared_of_free hq hslot (State.lowestIn_free_eq_some hfree hlow), hpos,
    if_neg Bool.false_ne_true, indexOf_cellOf, Reply.reference_new, State.shareCell]
  refine ⟨?posts, ?cell, fun n hn => ?cells, ?queue, ?record, fun k' hk => ?slots, ?session, fun d hd => ?sessions, ?rest⟩
  case posts =>
    refine State.postsAndSignals_post ?_ ?_ (fun w hne hws => ?_) _ _
    · rw [State.window_placeRecord, if_pos rfl, State.setValue_window, if_neg (client_window_ne_ws c)]
      simp [Window.signalled]
    · rw [State.window_placeRecord, if_neg (ws_ne_client_window c), State.setValue_window, if_pos rfl]
      rfl
    · rw [State.window_placeRecord, if_neg hne, State.setValue_window, if_neg hws]
      rfl
  case cell =>
    rw [State.cell_post, State.cell_placeRecord, State.cell_setValue, if_pos rfl, mapOf_cellOf]
    simp [Cell.given, Cell.become]
  case cells =>
    rw [State.cell_post, State.cell_placeRecord, State.cell_setValue, if_neg hn, State.cell_setCell_ne _ _ _ _ hn]
  case queue =>
    rw [State.post_queue, State.placeRecord_queue, State.setValue_queue]
    rfl
  case record => rw [State.holding_post, State.holding_placeRecord, if_pos rfl]
  case slots => rw [State.holding_post, State.holding_placeRecord, if_neg hk, State.holding_setValue, State.holding_setCell]
  case session => simp [State.session_placeRecord]
  case sessions => simp [State.session_placeRecord, hd]
  case rest => exact KeepsRest.post (by constructor <;> simp) _ _ _

/-! ### FREE (R33, R34) -/

theorem free_of_frozen (hf : (s.map m).frozen = true) : free c m h s = (s, .refusal .mapFrozen) := by
  simp [free, hf]

theorem free_of_index_above (hf : (s.map m).frozen = false) (hi : 255 < h.arg0.toNat) :
    free c m h s = (s, .refusal .badArgument) := by
  simp [free, hf, indexArg_eq_none.mpr hi]

theorem free_of_not_held (hf : (s.map m).frozen = false) (hi : h.arg0.toNat = i.val)
    (hshared : (s.cell (cellOf m i)).isShared = true) (hnone : s.findHolding c (cellOf m i) = none) :
    free c m h s = (s, .refusal .notHeld) := by
  obtain ⟨refs, hstate⟩ := Cell.isShared_iff.mp hshared
  simp only [free, hf, Bool.false_eq_true, if_false, indexArg_eq_some.mpr hi, hstate, hnone]

theorem free_of_held {refs : Nat} (hf : (s.map m).frozen = false) (hi : h.arg0.toNat = i.val)
    (hstate : (s.cell (cellOf m i)).state = .shared refs) (hfound : s.findHolding c (cellOf m i) = some k) :
    free c m h s = (dropOne c (cellOf m i) k s, .freed i (refs - 1)) := by
  simp only [free, hf, Bool.false_eq_true, if_false, indexArg_eq_some.mpr hi, hstate, hfound]

theorem free_of_other (hf : (s.map m).frozen = false) (hi : h.arg0.toNat = i.val)
    (hshared : (s.cell (cellOf m i)).isShared = false) (howned : (s.cell (cellOf m i)).state ≠ .owned c) :
    free c m h s = (s, .refusal .notOwner) := by
  simp only [free, hf, Bool.false_eq_true, if_false, indexArg_eq_some.mpr hi]
  cases hstate : (s.cell (cellOf m i)).state with
  | shared refs => simp [Cell.isShared, hstate] at hshared
  | owned owner =>
    have hne : owner ≠ c := fun heq => howned (heq ▸ hstate)
    simp [hne]
  | free | fixed | cooling => rfl

/-- Settles O22: the refusals in the check order of R33. -/
theorem freeRefuses : Obligations.FreeRefuses := by
  intro s c m h hr hcmd
  refine ⟨_, exec_free_of_runs hr hcmd, fun hf => s.refuses_of_eq (free_of_frozen hf) _ _,
    fun hf => ⟨fun hi => s.refuses_of_eq (free_of_index_above hf hi) _ _, fun i hi =>
      ⟨fun hshared hnone => s.refuses_of_eq (free_of_not_held hf hi hshared hnone) _ _,
        fun hshared howned => s.refuses_of_eq (free_of_other hf hi hshared howned) _ _⟩⟩⟩

/-- The last reference of a record goes with its slot and its unit of charge, and another lowers its count (R34). -/
theorem dropOne_eq {r : Holding} (hk : s.holding k = some r) (hcell : r.cell = n) (hcount : 1 ≤ r.count) :
    dropOne c n k s =
      if r.count = 1 then
        ((s.setHolding k none).dropReferences n 1).setCounts c (s.session c).owned ((s.session c).held - 1)
      else (s.setHolding k (some ⟨c, n, r.count - 1⟩)).dropReferences n 1 := by
  rw [dropOne, State.recordCount_of_holding hk]
  by_cases hone : r.count = 1
  · rw [if_pos hone.le, if_pos hone, s.removeRecord_eq hk, hcell, hone]
  · rw [if_neg (by omega), if_neg hone]

/-- Settles O23: `dropOne` in its two cases, with the reference dropped by the rule of R34. -/
theorem freeShared : Obligations.FreeShared := by
  intro s c m h i refs k r hr hcmd hf hi hstate hfound hk hcount
  obtain ⟨r', hr', -, hcell⟩ := State.holding_of_findHolding hfound
  rw [hk] at hr'
  cases hr'
  have hrefs (x : Option Holding) : (s.setHolding k x).references (cellOf m i) = refs := State.references_of_shared hstate
  refine ⟨_, exec_free_of_runs hr hcmd, ?_⟩
  rw [free_of_held hf hi hstate hfound, dropOne_eq hk hcell hcount]
  by_cases hone : r.count = 1
  · simp only [if_pos hone]
    have hnone : (s.session c).warnEvent (s.session c).owned ((s.session c).held - 1) = 0 :=
      Session.warnEvent_of_le (by omega)
    refine ⟨hnone ▸ State.posts_setCounts_post (by simp) (by simp) _ _ _ _, ?_, fun k' hne => ?_, ?_, fun n hne => ?_, ?_,
      ?_, fun d hd => ?_, KeepsRest.post (by constructor <;> simp) _ _ _⟩
    · simp
    · simp [hne]
    · rw [State.cell_post, State.cell_setCounts, State.cell_dropReferences, if_pos rfl, hrefs]
      rfl
    · rw [State.cell_post, State.cell_setCounts, State.cell_dropReferences, if_neg hne]
      rfl
    · rw [State.post_queue, State.setCounts_queue, State.dropReferences_queue, hrefs]
      rfl
    · simp [State.session_setCounts]
    · simp [State.session_setCounts, hd]
  · simp only [if_neg hone]
    refine ⟨State.posts_post (by simp) (by simp) _ _, ?_, fun k' hne => ?_, ?_, fun n hne => ?_, ?_, ?_, fun d hd => ?_,
      KeepsRest.post (by constructor <;> simp) _ _ _⟩
    · simp
    · simp [hne]
    · rw [State.cell_post, State.cell_dropReferences, if_pos rfl, hrefs]
      rfl
    · rw [State.cell_post, State.cell_dropReferences, if_neg hne]
      rfl
    · rw [State.post_queue, State.dropReferences_queue, hrefs]
      rfl
    · simp
    · simp

/-! ### PUBLISH (R35 to R37) -/

/-- The completion of a PUBLISH in progress (R105, R106). -/
theorem exec_publish_of_runs (hr : RunsClient s c m h) (hcmd : h.command = .publish) :
    exec .publish s = .next ((publish c m h s).1.post c.window .publish (publish c m h s).2) :=
  congrArg Host.Outcome.next (State.completeClient_of_command hr hcmd publish)

theorem publish_of_frozen (hf : (s.map m).frozen = true) : publish c m h s = (s, .refusal .mapFrozen) := by
  simp [publish, hf]

theorem publish_of_index_above (hf : (s.map m).frozen = false) (hi : 255 < h.arg0.toNat) :
    publish c m h s = (s, .refusal .badArgument) := by
  simp [publish, hf, indexArg_eq_none.mpr hi]

theorem publish_of_other {owner : ClientNo} (hf : (s.map m).frozen = false) (hi : h.arg0.toNat = i.val)
    (howned : (s.cell (cellOf m i)).state = .owned owner) (hne : owner ≠ c) :
    publish c m h s = (s, .refusal .notOwner) := by
  simp [publish, hf, indexArg_eq_some.mpr hi, howned, hne]

theorem publish_of_not_owned (hf : (s.map m).frozen = false) (hi : h.arg0.toNat = i.val)
    (hnot : ∀ owner, (s.cell (cellOf m i)).state ≠ .owned owner) : publish c m h s = (s, .refusal .wrongState) := by
  simp only [publish, hf, Bool.false_eq_true, if_false, indexArg_eq_some.mpr hi]
  cases hstate : (s.cell (cellOf m i)).state with
  | owned owner => exact absurd hstate (hnot owner)
  | free | shared | fixed | cooling => rfl

theorem publish_of_batched (hf : (s.map m).frozen = false) (hi : h.arg0.toNat = i.val)
    (howned : (s.cell (cellOf m i)).state = .owned c) (hbatch : s.cellInOpenBatch (cellOf m i) = true) :
    publish c m h s = (s, .refusal .wrongState) := by
  simp [publish, hf, indexArg_eq_some.mpr hi, howned, hbatch]

/-- The search of PUBLISH: the lowest SHARED cell of the map with this working value (R36). -/
def State.findDuplicate (s : State) (m : MapNo) (v : Colour) : Option CellNo :=
  s.lowestIn m fun x => x.isShared && x.working == v

/-- PUBLISH of an owned cell outside open batches comes to the duplicate search (R35, R36). -/
theorem publish_of_duplicate (hf : (s.map m).frozen = false) (hi : h.arg0.toNat = i.val)
    (howned : (s.cell (cellOf m i)).state = .owned c) (hbatch : s.cellInOpenBatch (cellOf m i) = false)
    (hfound : s.findDuplicate m (s.cell (cellOf m i)).working = some n) :
    publish c m h s = (s, ⟨.duplicate, field 7 0 (indexOf n).val, 0⟩) := by
  unfold State.findDuplicate at hfound
  simp only [publish, hf, Bool.false_eq_true, if_false, indexArg_eq_some.mpr hi, howned, hbatch, ne_eq, not_true_eq_false,
    hfound]

/-- Where no SHARED cell has the value, PUBLISH comes to the slot search (R35). -/
theorem publish_of_full (hf : (s.map m).frozen = false) (hi : h.arg0.toNat = i.val)
    (howned : (s.cell (cellOf m i)).state = .owned c) (hbatch : s.cellInOpenBatch (cellOf m i) = false)
    (hnone : s.findDuplicate m (s.cell (cellOf m i)).working = none) (hslot : s.emptySlot = none) :
    publish c m h s = (s, .refusal .holdingsFull) := by
  unfold State.findDuplicate at hnone
  simp only [publish, hf, Bool.false_eq_true, if_false, indexArg_eq_some.mpr hi, howned, hbatch, ne_eq, not_true_eq_false,
    hnone, hslot]

theorem publish_of_slot (hf : (s.map m).frozen = false) (hi : h.arg0.toNat = i.val)
    (howned : (s.cell (cellOf m i)).state = .owned c) (hbatch : s.cellInOpenBatch (cellOf m i) = false)
    (hnone : s.findDuplicate m (s.cell (cellOf m i)).working = none) (hslot : s.emptySlot = some k) :
    publish c m h s = (makePublic c (cellOf m i) k s, .ok (field 7 0 i.val) 0) := by
  unfold State.findDuplicate at hnone
  simp only [publish, hf, Bool.false_eq_true, if_false, indexArg_eq_some.mpr hi, howned, hbatch, ne_eq, not_true_eq_false,
    hnone, hslot]

theorem State.findDuplicate_eq_some {j : Index} (hshared : (s.cell (cellOf m j)).isShared = true)
    (hv : (s.cell (cellOf m j)).working = v)
    (hlow : ∀ j' < j, (s.cell (cellOf m j')).isShared = true → (s.cell (cellOf m j')).working ≠ v) :
    s.findDuplicate m v = some (cellOf m j) := by
  refine State.lowestIn_eq_some.mpr ⟨by rw [hshared, hv, beq_self_eq_true]; rfl, fun j' hj' => ?_⟩
  rw [Bool.and_eq_false_iff, beq_eq_false_iff_ne, ← Bool.not_eq_true, ← imp_iff_not_or]
  exact hlow j' hj'

theorem State.findDuplicate_eq_none
    (hnone : ∀ j : Index, (s.cell (cellOf m j)).isShared = true → (s.cell (cellOf m j)).working ≠ v) :
    s.findDuplicate m v = none := by
  refine State.lowestIn_eq_none.mpr fun j => ?_
  rw [Bool.and_eq_false_iff, beq_eq_false_iff_ne, ← Bool.not_eq_true, ← imp_iff_not_or]
  exact hnone j

/-- Settles O25: the refusals in the check order of R35, with the duplicate of R36 before the full table. -/
theorem publishRefuses : Obligations.PublishRefuses := by
  intro s c m h hr hcmd
  refine ⟨_, exec_publish_of_runs hr hcmd, fun hf => s.refuses_of_eq (publish_of_frozen hf) _ _,
    fun hf => ⟨fun hi => s.refuses_of_eq (publish_of_index_above hf hi) _ _, fun i hi =>
      ⟨fun owner howned hne => s.refuses_of_eq (publish_of_other hf hi howned hne) _ _,
        fun hnot => s.refuses_of_eq (publish_of_not_owned hf hi hnot) _ _, fun howned =>
          ⟨fun hbatch => s.refuses_of_eq (publish_of_batched hf hi howned hbatch) _ _, fun hbatch =>
            ⟨fun j hshared hv hlow => ?_, fun hnone hfull => s.refuses_of_eq (publish_of_full hf hi howned hbatch
              (State.findDuplicate_eq_none hnone) (State.emptySlot_eq_none.mpr hfull)) _ _⟩⟩⟩⟩⟩
  rw [publish_of_duplicate hf hi howned hbatch (State.findDuplicate_eq_some hshared hv hlow), indexOf_cellOf]
  exact s.onlyPosts_post _ _ _

/-- A cell that passes from the owned to the held account leaves the charge and the armed flag as they were (R37). -/
theorem Session.recount_of_publish {x : Session} (howned : 1 ≤ x.owned) :
    x.recount (x.owned - 1) (x.held + 1) = { x with owned := x.owned - 1, held := x.held + 1 } := by
  rw [Session.recount, if_neg (by omega), if_neg (by omega)]

/-- Settles O26: the checks leave `makePublic`, which moves one unit from the owned to the held count. -/
theorem publishShares : Obligations.PublishShares := by
  intro s c m h i k hr hcmd hf hi howned hbatch hnone hslot hcount
  have hquiet : (s.session c).warnEvent ((s.session c).owned - 1) ((s.session c).held + 1) = 0 :=
    Session.warnEvent_of_le (by omega)
  refine ⟨_, exec_publish_of_runs hr hcmd, ?_⟩
  rw [publish_of_slot hf hi howned hbatch (State.findDuplicate_eq_none hnone) hslot, makePublic]
  refine ⟨hquiet ▸ State.posts_setCounts_post (by simp) (by simp) _ _ _ _, ?_, fun n hne => ?_, ?_, fun k' hne => ?_, ?_,
    fun d hd => ?_, ?_, KeepsRest.post (by constructor <;> simp) _ _ _⟩
  · simp [Cell.become]
  · simp [hne]
  · simp
  · simp [hne]
  · rw [State.session_post, State.session_setCounts, if_pos rfl, State.session_setHolding, State.session_setCell,
      Session.recount_of_publish hcount]
  · simp [State.session_setCounts, hd]
  · simp

end Sys2Proof.Machine
end

section
/-! Proofs on the refusals of ALLOC_PRIVATE and STORE in their check order (R40, R42, R46, R48, R49). -/

namespace Sys2Proof.Machine

variable {s : State} {c : ClientNo} {m : MapNo} {h : Held} {i : Index} {v : Colour}

/-! ### ALLOC_PRIVATE (R40, R42) -/

/-- The run search fails exactly where no run of at least one cell fits (R41). -/
theorem State.findRun_eq_none {count align : Nat} {ok : Cell → Bool} (hc : 1 ≤ count) :
    s.findRun m count align ok = none ↔ ∀ i, ¬ s.RunFits m count align ok i := by
  rw [State.findRun, List.find?_eq_none]
  simp only [List.mem_range, State.runFits_iff]
  refine ⟨fun hnone i hfit => ?_, fun hnone i _ => hnone i⟩
  have hinside : i + count ≤ 256 := hfit.2.1
  exact hnone i (by omega) hfit

theorem State.isSome_findRun {count align : Nat} {ok : Cell → Bool} (hc : 1 ≤ count) :
    (s.findRun m count align ok).isSome = true ↔ ∃ i, s.RunFits m count align ok i := by
  rw [Option.isSome_iff_ne_none, Ne, State.findRun_eq_none hc, not_forall_not]

/-- The arguments that ALLOC_PRIVATE allows: a count of 1 to 64 and a listed alignment (R40). -/
structure Held.AsksRun (h : Held) : Prop where
  lower : 1 ≤ h.arg0.toNat
  upper : h.arg0.toNat ≤ 64
  align : h.arg1.toNat ∈ Config.alignments

theorem Held.AsksRun.passes (ha : h.AsksRun) :
    ¬ (h.arg0.toNat = 0 ∨ Config.runLimit < h.arg0.toNat ∨ h.arg1.toNat ∉ Config.alignments) := by
  rintro (hzero | hmany | halign)
  · exact Nat.ne_of_gt ha.lower hzero
  · exact Nat.not_lt.mpr ha.upper hmany
  · exact halign ha.align

theorem allocPrivate_of_bad_argument
    (hbad : h.arg0.toNat = 0 ∨ 64 < h.arg0.toNat ∨ h.arg1.toNat ∉ Config.alignments) :
    allocPrivate c m h s = (s, .refusal .badArgument) := by
  rw [allocPrivate]
  exact if_pos hbad

theorem allocPrivate_of_frozen (ha : h.AsksRun) (hf : (s.map m).frozen = true) :
    allocPrivate c m h s = (s, .refusal .mapFrozen) := by
  simp only [allocPrivate, if_neg ha.passes, hf, if_true]

theorem allocPrivate_of_over_quota (ha : h.AsksRun) (hf : (s.map m).frozen = false)
    (hq : (s.session c).quota < (s.session c).charge + h.arg0.toNat) :
    allocPrivate c m h s = (s, .refusal .quota) := by
  have hquota : (s.session c).exceedsQuota h.arg0.toNat = true := decide_eq_true hq
  simp only [allocPrivate, if_neg ha.passes, hf, Bool.false_eq_true, if_false, hquota, if_true]

/-- Where no run of FREE cells fits, ALLOC_PRIVATE tells whether one would with the COOLING cells (R42). -/
theorem allocPrivate_of_no_run (ha : h.AsksRun) (hf : (s.map m).frozen = false)
    (hq : (s.session c).charge + h.arg0.toNat ≤ (s.session c).quota)
    (hnone : ∀ i, ¬ s.RunFits m h.arg0.toNat h.arg1.toNat Cell.isFree i) :
    allocPrivate c m h s =
      if (s.findRun m h.arg0.toNat h.arg1.toNat fun x => x.isFree || x.isCooling).isSome then (s, .refusal .coolingWait)
      else (s, .refusal .noSpace) := by
  simp only [allocPrivate, if_neg ha.passes, hf, Session.exceedsQuota_eq_false.mpr hq, Bool.false_eq_true, if_false,
    (State.findRun_eq_none ha.lower).mpr hnone]

/-- Settles O27: the refusals in the check order of R40, the arguments before the freeze. -/
theorem allocPrivateRefuses : Obligations.AllocPrivateRefuses := by
  intro s c m h hr hcmd
  refine ⟨_, exec_allocPrivate_of_runs hr hcmd, fun hbad => s.refuses_of_eq (allocPrivate_of_bad_argument hbad) _ _,
    fun hlo hhi halign => ?_⟩
  have ha : h.AsksRun := ⟨hlo, hhi, halign⟩
  refine ⟨fun hf => s.refuses_of_eq (allocPrivate_of_frozen ha hf) _ _,
    fun hf => ⟨fun hq => s.refuses_of_eq (allocPrivate_of_over_quota ha hf hq) _ _, fun hq hnone =>
      ⟨fun hcooling => s.refuses_of_eq ?_ _ _, fun hnot => s.refuses_of_eq ?_ _ _⟩⟩⟩
  · rw [allocPrivate_of_no_run ha hf hq hnone, if_pos ((State.isSome_findRun hlo).mpr hcooling)]
  · rw [allocPrivate_of_no_run ha hf hq hnone, (State.findRun_eq_none hlo).mpr hnot]
    rfl

/-! ### STORE (R46, R48, R49) -/

theorem store_of_frozen (hf : (s.map m).frozen = true) : store c m h s = (s, .refusal .mapFrozen) := by
  simp [store, hf]

theorem store_of_index_above (hf : (s.map m).frozen = false) (hi : 255 < h.arg0.toNat) :
    store c m h s = (s, .refusal .badArgument) := by
  simp [store, hf, indexArg_eq_none.mpr hi]

theorem store_of_not_owned (hf : (s.map m).frozen = false) (hi : h.arg0.toNat = i.val)
    (hnot : ∀ owner, (s.cell (cellOf m i)).state ≠ .owned owner) : store c m h s = (s, .refusal .wrongState) := by
  simp only [store, hf, Bool.false_eq_true, if_false, indexArg_eq_some.mpr hi]
  cases hstate : (s.cell (cellOf m i)).state with
  | owned owner => exact absurd hstate (hnot owner)
  | free | shared | fixed | cooling => rfl

theorem store_of_other {owner : ClientNo} (hf : (s.map m).frozen = false) (hi : h.arg0.toNat = i.val)
    (howned : (s.cell (cellOf m i)).state = .owned owner) (hne : owner ≠ c) : store c m h s = (s, .refusal .notOwner) := by
  simp [store, hf, indexArg_eq_some.mpr hi, howned, hne]

theorem store_of_bad_value (hf : (s.map m).frozen = false) (hi : h.arg0.toNat = i.val)
    (howned : (s.cell (cellOf m i)).state = .owned c) (hv : bits 31 30 h.arg1 ≠ 0) :
    store c m h s = (s, .refusal .badArgument) := by
  simp [store, hf, indexArg_eq_some.mpr hi, howned, colourArg_eq_none.mpr hv]

/-- STORE of a colour to an owned cell comes to the room in the batch and in the queue (R48, R49). -/
theorem store_of_full_batch (hf : (s.map m).frozen = false) (hi : h.arg0.toNat = i.val)
    (howned : (s.cell (cellOf m i)).state = .owned c) (hv : colourArg h.arg1 = some v) (hmode : (s.map m).mode = .deferred)
    (hbatch : s.batchFull c (cellOf m i) = true) : store c m h s = (s, .refusal .batchLimit) := by
  simp [store, hf, indexArg_eq_some.mpr hi, howned, hv, hmode, hbatch]

theorem store_of_full_queue (hf : (s.map m).frozen = false) (hi : h.arg0.toNat = i.val)
    (howned : (s.cell (cellOf m i)).state = .owned c) (hv : colourArg h.arg1 = some v)
    (hbatch : s.batchFull c (cellOf m i) = false) (hpos : s.noPosition (cellOf m i) = true) :
    store c m h s = (s, .refusal .queueFull) := by
  simp [store, hf, indexArg_eq_some.mpr hi, howned, hv, hbatch, hpos]

theorem exists_colourArg {w : Word} (hw : bits 31 30 w = 0) : ∃ v, colourArg w = some v :=
  Option.ne_none_iff_exists'.mp fun hnone => colourArg_eq_none.mp hnone hw

theorem State.batchFull_eq_true {n : CellNo} {j : Nat} (hj : (s.session c).openBatch = some j)
    (hnot : (⟨n, some ⟨c, j⟩⟩ : Entry) ∉ s.queue) (hfull : 32 ≤ s.batchCount ⟨c, j⟩) : s.batchFull c n = true := by
  by_contra hroom
  obtain hmem | hlt := State.batchFull_eq_false.mp (by simpa using hroom) j hj
  · exact hnot hmem
  · exact Nat.not_lt.mpr hfull hlt

/-- Settles O29: the refusals in the check order of R46, with the conditions of R48 and R49. -/
theorem storeRefuses : Obligations.StoreRefuses := by
  intro s c m h hr hcmd
  refine ⟨_, exec_store_of_runs hr hcmd, fun hf => s.refuses_of_eq (store_of_frozen hf) _ _,
    fun hf => ⟨fun hi => s.refuses_of_eq (store_of_index_above hf hi) _ _, fun i hi =>
      ⟨fun hnot => s.refuses_of_eq (store_of_not_owned hf hi hnot) _ _,
        fun owner howned hne => s.refuses_of_eq (store_of_other hf hi howned hne) _ _, fun howned =>
          ⟨fun hv => s.refuses_of_eq (store_of_bad_value hf hi howned hv) _ _, fun hv hmode => ?_⟩⟩⟩⟩
  obtain ⟨v, hv⟩ := exists_colourArg hv
  refine ⟨fun j hj hnot hfull => s.refuses_of_eq ?_ _ _, fun hroom hqueued hfull => s.refuses_of_eq ?_ _ _⟩
  · exact store_of_full_batch hf hi howned hv hmode (State.batchFull_eq_true hj hnot hfull)
  · have hmode' : (s.map (mapOf (cellOf m i))).mode = .deferred := by rw [mapOf_cellOf, hmode]
    exact store_of_full_queue hf hi howned hv (State.batchFull_eq_false.mpr hroom)
      (State.noPosition_eq_true.mpr ⟨hmode', hqueued, hfull⟩)

end Sys2Proof.Machine
end

section
/-! Proofs on the supervisor's commands MAP_MODE, FLUSH and SET_COMMIT (R137, R139, R140), and on the display side: frame boundaries,
countdowns and lookups (R13, R84, R85, R147, R151). -/

namespace Sys2Proof.Machine

variable {s t : State} {h : Held} {m : MapNo} {n : CellNo} {c : ClientNo}

/-! ### Entries taken in one event (R85, R90) -/

theorem shows_takeEntries (s : State) (p : Entry → Bool) : Shows s (s.takeEntries p) p where
  shown e he hp := by
    rw [State.cell_takeEntries, if_pos (List.any_eq_true.mpr ⟨e, he, by rw [hp, beq_self_eq_true]; rfl⟩)]
  hidden n hn := by
    rw [State.cell_takeEntries, if_neg]
    intro hany
    obtain ⟨e, he, hboth⟩ := List.any_eq_true.mp hany
    obtain ⟨hcell, hp⟩ := Bool.and_eq_true_iff.mp hboth
    exact hn e he (beq_iff_eq.mp hcell) hp
  queue := rfl

/-- A post over a state with the windows of `s` (R106). -/
theorem State.posts_post_of_windows (hw : t.windows = s.windows) (w : WindowNo) (cmd : Command) (r : Reply) :
    Posts s (t.post w cmd r) w cmd r 0 := by
  have hwin (j : WindowNo) : t.window j = s.window j := by rw [State.window, hw]; rfl
  exact State.posts_post (by rw [hwin]; exact (Window.signalled_zero _).symm) (fun j _ => hwin j) cmd r

/-! ### MAP_MODE (R137) -/

/-- The completion of a MAP_MODE in progress (R105, R106). -/
theorem exec_mapMode_of_runs (hr : RunsSupervisor s h) (hcmd : h.command = .mapMode) :
    exec .mapMode s = .next ((mapMode h s).1.post .ws .mapMode (mapMode h s).2) :=
  congrArg Host.Outcome.next (State.completeSupervisor_of_command hr hcmd mapMode)

theorem modeArg_eq_some {w : Word} {mode : MapMode} : modeArg w = some mode ↔ w.toNat = mode.code := by
  unfold modeArg
  split <;> cases mode <;> simp_all [MapMode.code]

theorem modeArg_eq_none {w : Word} : modeArg w = none ↔ 1 < w.toNat := by
  unfold modeArg
  split <;> simp_all
  omega

theorem frozenArg_eq_some {w : Word} {frozen : Bool} : frozenArg w = some frozen ↔ w.toNat = frozen.toNat := by
  unfold frozenArg
  split <;> cases frozen <;> simp_all

theorem frozenArg_eq_none {w : Word} : frozenArg w = none ↔ 1 < w.toNat := by
  unfold frozenArg
  split <;> simp_all
  omega

theorem mapMode_of_bad_argument (hbad : 3 < h.arg0.toNat ∨ 1 < h.arg1.toNat ∨ 1 < h.arg2.toNat) :
    mapMode h s = (s, .refusal .badArgument) := by
  unfold mapMode
  obtain hm | hmode | hfrozen := hbad
  · rw [mapArg_eq_none.mpr hm]
  · rw [modeArg_eq_none.mpr hmode]
    cases mapArg h.arg0 <;> rfl
  · rw [frozenArg_eq_none.mpr hfrozen]
    cases mapArg h.arg0 <;> cases modeArg h.arg1 <;> rfl

/-- MAP_MODE whose arguments are in range drains the map where it changes from DEFERRED to DIRECT, and else sets it alone. -/
theorem mapMode_of_arguments {mode : MapMode} {frozen : Bool} (hm : h.arg0.toNat = m.val)
    (hmode : h.arg1.toNat = mode.code) (hfrozen : h.arg2.toNat = frozen.toNat) :
    mapMode h s =
      if (s.map m).mode = .deferred ∧ mode = .direct then
        if s.mapHasOpenBatch m then (s, .refusal .wrongState)
        else ((s.drain m).setMap m ⟨mode, frozen⟩, .mapMode m mode frozen (s.drainCount m))
      else (s.setMap m ⟨mode, frozen⟩, .mapMode m mode frozen 0) := by
  simp only [mapMode, mapArg_eq_some.mpr hm, modeArg_eq_some.mpr hmode, frozenArg_eq_some.mpr hfrozen]

theorem State.mapHasOpenBatch_iff :
    s.mapHasOpenBatch m = true ↔ ∃ c, (s.session c).state.map? = some m ∧ (s.session c).openBatch ≠ none := by
  rw [State.mapHasOpenBatch, lowest_isSome]
  change (∃ c, (decide ((s.session c).state.map? = some m) && (s.session c).openBatch.isSome) = true) ↔ _
  simp only [Bool.and_eq_true, decide_eq_true_eq, Option.isSome_iff_ne_none]

/-- Settles O44: the checks of R137 in order, then the drain of a change to DIRECT or the setting alone. -/
theorem mapModeSets : Obligations.MapModeSets := by
  intro s h hr hcmd
  refine ⟨_, exec_mapMode_of_runs hr hcmd, fun hbad => s.refuses_of_eq (mapMode_of_bad_argument hbad) _ _,
    fun m mode frozen hm hmode hfrozen => ?_⟩
  rw [mapMode_of_arguments hm hmode hfrozen]
  by_cases hchange : (s.map m).mode = .deferred ∧ mode = .direct
  · rw [if_pos hchange]
    refine ⟨fun _ _ hopen => ?_, fun hnone => ?_⟩
    · rw [if_pos (State.mapHasOpenBatch_iff.mpr hopen)]
      exact s.refuses_post _ _ _
    · rw [if_neg fun hopen => ?_]
      · have hshows := shows_takeEntries s (s.drains m)
        refine ⟨fun _ => ⟨⟨hshows.shown, hshows.hidden, hshows.queue⟩,
          State.posts_post_of_windows (by rfl) _ _ _⟩, fun hnot => absurd hchange hnot, ?_, fun m' hne => ?_, rfl⟩
        · rw [State.map_post, State.map_setMap_self]
        · rw [State.map_post, State.map_setMap_ne _ _ _ _ hne]
          rfl
      · obtain ⟨c, hc, hbatch⟩ := State.mapHasOpenBatch_iff.mp hopen
        exact hbatch (hnone hchange.1 hchange.2 c hc)
  · rw [if_neg hchange]
    refine ⟨fun hdeferred hdirect => absurd ⟨hdeferred, hdirect⟩ hchange, fun _ => ⟨fun hyes => absurd hyes hchange,
      fun _ => ⟨rfl, rfl, State.posts_post_of_windows (by rfl) _ _ _⟩, ?_, fun m' hne => ?_, rfl⟩⟩
    · rw [State.map_post, State.map_setMap_self]
    · rw [State.map_post, State.map_setMap_ne _ _ _ _ hne]

/-! ### FLUSH (R139) -/

/-- The completion of a FLUSH in progress (R105, R106). -/
theorem exec_flush_of_runs (hr : RunsSupervisor s h) (hcmd : h.command = .flush) :
    exec .flush s = .next ((flush h s).1.post .ws .flush (flush h s).2) :=
  congrArg Host.Outcome.next (State.completeSupervisor_of_command hr hcmd flush)

theorem flush_of_no_map (hm : 3 < h.arg0.toNat) : flush h s = (s, .refusal .badArgument) := by
  rw [flush, mapArg_eq_none.mpr hm]

theorem flush_of_map (hm : h.arg0.toNat = m.val) :
    flush h s = (endCooling m (s.drain m), .flushed m (s.drainCount m) (s.coolingCount m)) := by
  rw [flush, mapArg_eq_some.mpr hm]

/-- The cells of a map that meet a condition are counted by its indices. -/
theorem collect_map_length (s : State) (m : MapNo) (p : Cell → Bool) :
    (collect (fun n x => mapOf n == m && p x) s.cells).length =
      (List.finRange 256).countP fun i => p (s.cell (cellOf m i)) := by
  rw [collect_length, countP_eq_sum, ← Fin.sum_univ_def]
  refine (Finset.sum_of_injOn (cellOf m) (fun i _ j _ heq => cellOf_inj.mp heq) (fun _ _ => Finset.mem_coe.mpr (Finset.mem_univ _))
    (fun n _ hn => ?_) fun i _ => ?_).symm
  · have hmap : mapOf n ≠ m := fun heq => hn ⟨indexOf n, Finset.mem_coe.mpr (Finset.mem_univ _), by
      rw [← heq, cellOf_mapOf_indexOf]⟩
    rw [beq_eq_false_iff_ne.mpr hmap]
    rfl
  · rw [mapOf_cellOf, beq_self_eq_true, Bool.true_and]
    rfl

theorem cell_endCooling_drain (s : State) (m : MapNo) (n : CellNo) :
    (endCooling m (s.drain m)).cell n =
      ⟨if mapOf n = m ∧ (s.cell n).isCooling then .free else (s.cell n).state, (s.cell n).working,
        if s.queue.any (fun e => e.cell == n && s.drains m e) then (s.cell n).working else (s.cell n).visible⟩ := by
  rw [endCooling, State.cell_mapCells, State.drain, State.cell_takeEntries]
  by_cases hany : s.queue.any (fun e => e.cell == n && s.drains m e) = true
  · rw [if_pos hany, if_pos hany]
    change (if (mapOf n == m && (s.cell n).isCooling) = true then _ else _) = _
    simp only [Bool.and_eq_true, beq_iff_eq]
    split <;> rfl
  · rw [if_neg hany, if_neg hany]
    simp only [Bool.and_eq_true, beq_iff_eq]
    split <;> rfl

/-- Settles O45: the drain of R90 and the end of the map's cooling, with both counts posted. -/
theorem flushDrains : Obligations.FlushDrains := by
  intro s h hr hcmd
  refine ⟨_, exec_flush_of_runs hr hcmd, fun hm => s.refuses_of_eq (flush_of_no_map hm) _ _, fun m hm => ?_⟩
  rw [flush_of_map hm]
  refine ⟨rfl, fun n => ?_, ?_, rfl, rfl, KeepsRest.post (by constructor <;> rfl) _ _ _⟩
  · rw [State.cell_post, cell_endCooling_drain]
  · rw [← collect_map_length s m Cell.isCooling]
    exact State.posts_post_of_windows (by rfl) _ _ _

/-! ### SET_COMMIT (R140) -/

/-- The completion of a SET_COMMIT in progress (R105, R106). -/
theorem exec_setCommit_of_runs (hr : RunsSupervisor s h) (hcmd : h.command = .setCommit) :
    exec .setCommit s = .next ((setCommit h s).1.post .ws .setCommit (setCommit h s).2) :=
  congrArg Host.Outcome.next (State.completeSupervisor_of_command hr hcmd setCommit)

/-- Settles O46: one check over both values, which are taken together. -/
theorem setCommitSets : Obligations.SetCommitSets := by
  intro s h hr hcmd
  refine ⟨_, exec_setCommit_of_runs hr hcmd, fun hbad => s.refuses_of_eq (if_pos hbad) _ _, fun hlo hhi hcooling => ?_⟩
  have hin : ¬ (h.arg0.toNat < Config.budgetMin ∨ Config.budgetMax < h.arg0.toNat ∨ Config.coolingLimit < h.arg1.toNat) := by
    unfold Config.budgetMin Config.budgetMax Config.coolingLimit
    omega
  rw [setCommit, if_neg hin]
  exact ⟨rfl, rfl, State.posts_post_of_windows (by rfl) _ _ _, rfl⟩

/-! ### While RESET is held (R146) -/

theorem State.access_of_held (hheld : s.resetHeld = true) (w : WindowNo) (b : MasterNo) (o : Offset) (a : Access) :
    s.access w b o a = s := if_pos hheld

theorem State.accessAt_of_held (hheld : s.resetHeld = true) (w : Option WindowNo) (b : MasterNo) (o : Offset) (a : Access) :
    s.accessAt w b o a = s := by
  cases w with
  | some w => exact State.access_of_held hheld w b o a
  | none =>
    cases a with
    | read => exact if_pos hheld
    | write => rfl

/-- While RESET is held no row but the events of power-on reset has an effect (R146). -/
theorem exec_of_held (hheld : s.resetHeld = true) {i : Instr} (hreset : i ≠ .powerOnReset)
    (hrelease : ∀ supm, i ≠ .resetRelease supm) : exec i s = .next s := by
  cases i with
  | powerOnReset => exact absurd rfl hreset
  | resetRelease supm => exact absurd rfl (hrelease supm)
  | engineTake => exact if_pos (by rw [hheld]; rfl)
  | teardownSlice | blankStartEdge | coolingExpiry => exact if_pos hheld
  | lookup => exact if_pos (.inl hheld)
  | commandWrite | partReset | evPendWrite | evEnWrite | faultWrite | inspSelWrite | inspDataRead =>
    exact congrArg Host.Outcome.next (State.access_of_held hheld _ _ _ _)
  | deniedAccess | registerWrite => exact congrArg Host.Outcome.next (State.accessAt_of_held hheld _ _ _ _)
  | allocShared | hold | free | publish | allocPrivate | store | freeRun | read | query | batchOpen | batchClose | clientOpen
  | clientQuota | clientClose | fix | unfix | mapReset | mapMode | flush | setCommit =>
    exact congrArg Host.Outcome.next (if_pos hheld)

/-- Settles O52: the release gives the power-on state, and every other row leaves a held part. -/
theorem resetHeldAndReleased : Obligations.ResetHeldAndReleased :=
  have hblack : (colourWord .black).setWidth 30 = 0#30 := by decide
  ⟨fun s => ⟨_, rfl, rfl, hblack, rfl, rfl, fun _ => rfl, fun _ => rfl⟩, fun _ _ hheld => if_pos hheld,
    fun _ _ hheld hreset hrelease => exec_of_held hheld hreset hrelease⟩

/-! ### Frame boundaries (R84, R85, R151) -/

/-- The commit walk reads the queue and the sessions alone (R84). -/
theorem State.walk_congr (hqueue : t.queue = s.queue) (hsessions : t.sessions = s.sessions) (l : List Entry) (budget : Nat)
    (k : Taken) : t.walk l budget k = s.walk l budget k := by
  have hopen : t.batchOpen = s.batchOpen := State.batchOpen_congr fun c => by rw [State.session, hsessions]; rfl
  have hcount : t.batchCount = s.batchCount := State.batchCount_congr hqueue
  induction l generalizing budget k with
  | nil => rfl
  | cons e rest ih => simp only [State.walk, hopen, hcount, ih]

/-- What a frame boundary takes does not depend on the watch. -/
theorem State.committed_setBlank (s : State) (x : BlankWatch) : ({ s with blank := x } : State).committed = s.committed :=
  State.walk_congr (s := s) (t := { s with blank := x }) rfl rfl _ _ _

theorem exec_blankStartEdge_of_edge {low high : Nat} (hpower : s.resetHeld = false) (hedge : s.EdgeIn low high) :
    exec (.blankStartEdge low high) s = .next ({ s with blank := .settled } : State).commit.countdown := by
  change execBlankStartEdge low high s = _
  rw [execBlankStartEdge, hpower, if_neg Bool.false_ne_true]
  dsimp only
  rw [if_pos (takesEdge_iff.mpr hedge), watch_of_edge hedge]

theorem exec_blankStartEdge_of_no_edge {low high : Nat} (hpower : s.resetHeld = false) (hedge : ¬ s.EdgeIn low high) :
    exec (.blankStartEdge low high) s = .next { s with blank := s.blank.watch low high } := by
  change execBlankStartEdge low high s = _
  rw [execBlankStartEdge, hpower, if_neg Bool.false_ne_true]
  dsimp only
  rw [if_neg (takesEdge_iff.not.mpr hedge)]

/-- A countdown of a COOLING cell (R13). -/
theorem Cell.cool_of_cooling {x : Cell} {j : Nat} (hj : x.state = .cooling j) :
    x.cool = x.become (if j ≤ 1 then .free else .cooling (j - 1)) := by
  rw [Cell.cool, hj]
  rfl

theorem Cell.cool_of_not_cooling {x : Cell} (h : x.isCooling = false) : x.cool = x := by
  unfold Cell.cool
  split
  next j hj => simp [Cell.isCooling, hj] at h
  next => rfl

theorem State.cell_commit (s : State) (x : BlankWatch) (n : CellNo) :
    ({ s with blank := x } : State).commit.cell n =
      if s.queue.any (fun e => e.cell == n && s.committed.has e) then { s.cell n with visible := (s.cell n).working }
      else s.cell n := by
  rw [State.commit, State.committed_setBlank, State.cell_takeEntries]
  rfl

/-- Settles O47: an edge is one walk and one countdown, and the watch follows `watch_eq`. -/
theorem frameBoundary : Obligations.FrameBoundary := by
  intro s low high hpower
  by_cases hedge : s.EdgeIn low high
  · refine ⟨_, exec_blankStartEdge_of_edge hpower hedge, fun _ => ⟨rfl, ?queue, fun n => ?cell⟩,
      fun hnot => absurd hedge hnot⟩
    case queue =>
      change List.filter _ s.queue = _
      rw [State.committed_setBlank]
    case cell =>
      have hshows := shows_takeEntries s s.committed.has
      have hcommit : ({ s with blank := .settled } : State).commit.cell n = (s.takeEntries s.committed.has).cell n := by
        rw [State.cell_commit, State.cell_takeEntries]
      have hvalues : ((s.takeEntries s.committed.has).cell n).state = (s.cell n).state ∧
          ((s.takeEntries s.committed.has).cell n).working = (s.cell n).working := by
        rw [State.cell_takeEntries]
        split <;> exact ⟨rfl, rfl⟩
      rw [State.cell_countdown, hcommit]
      refine ⟨?_, fun ⟨e, he, hcell, hhas⟩ => ?_, fun hnone => ?_, fun j hj => ?_, fun hcooling => ?_⟩
      · rw [Cell.cool_working, hvalues.2]
      · subst hcell
        rw [Cell.cool_visible, hshows.shown e he hhas]
      · rw [Cell.cool_visible, hshows.hidden n hnone]
      · rw [Cell.cool_of_cooling (hvalues.1.trans hj)]
        rfl
      · have hsame : ((s.takeEntries s.committed.has).cell n).isCooling = false := by
          rw [Cell.isCooling, hvalues.1]
          exact hcooling
        rw [Cell.cool_of_not_cooling hsame, hvalues.1]
  · refine ⟨_, exec_blankStartEdge_of_no_edge hpower hedge, fun hyes => absurd hyes hedge, fun _ =>
      ⟨rfl, fun hhigh => ?_, fun hhigh hrise => watch_of_rise hhigh hrise hedge, fun _ hlow => ?_⟩⟩
    · subst hhigh
      exact watch_of_low hedge
    · subst hlow
      exact watch_of_high hedge

/-! ### Batches move whole (R76) -/

/-- The entries of every batch are all in `q`, or the batch is closed and none is (R76). -/
def State.BatchesWhole (s : State) (q : List Entry) : Prop :=
  ∀ tag : Tag, (∀ e ∈ s.queue, e.tag = some tag → e ∈ q) ∨
    (s.batchOpen tag = false ∧ ∀ e ∈ s.queue, e.tag = some tag → e ∉ q)

theorem State.batchesWhole_queue (s : State) : s.BatchesWhole s.queue := fun _ => .inl fun _ he _ => he

/-- Entries leave by batches where what decides on them is the same for all entries of a batch, and passes over open ones. -/
theorem State.batchesWhole_filter {p : Entry → Bool}
    (hsame : ∀ e ∈ s.queue, ∀ e' ∈ s.queue, e.tag = e'.tag → e.tag ≠ none → p e = p e')
    (hopen : ∀ e ∈ s.queue, s.inOpenBatch e = true → p e = false) : s.BatchesWhole (s.queue.filter fun e => !p e) := by
  intro tag
  by_cases htaken : ∃ e ∈ s.queue, e.tag = some tag ∧ p e = true
  · obtain ⟨e, he, htag, hp⟩ := htaken
    refine .inr ⟨Bool.eq_false_iff.mpr fun hbatch => ?_, fun e' he' htag' hmem => ?_⟩
    · rw [hopen e he (State.inOpenBatch_iff.mpr ⟨tag, htag, hbatch⟩)] at hp
      exact Bool.noConfusion hp
    · have hp' := (List.mem_filter.mp hmem).2
      rw [← hsame e he e' he' (htag.trans htag'.symm) (by simp [htag]), hp] at hp'
      exact Bool.noConfusion hp'
  · refine .inl fun e he htag => List.mem_filter.mpr ⟨he, ?_⟩
    by_contra hp
    exact htaken ⟨e, he, htag, by simpa using hp⟩

/-- The commit walk takes a batch whole (R84). -/
theorem QueueHolds.batchesWhole_commit (hq : QueueHolds s) : s.BatchesWhole (s.queue.filter fun e => !s.committed.has e) := by
  refine State.batchesWhole_filter (fun e _ e' _ htag hne => ?_) fun e he hin => ?_
  · obtain ⟨tag, he⟩ := Option.ne_none_iff_exists'.mp hne
    rw [Taken.has, Taken.has, ← htag, he]
  · by_contra hhas
    obtain ⟨hclosed, -⟩ := (walkTakes.1 s hq e he).mp (by simpa using hhas)
    exact Bool.false_ne_true (hclosed.symm.trans hin)

/-- A map drain takes a batch whole, since its entries are all of one map (R75, R90). -/
theorem QueueHolds.batchesWhole_drain (hq : QueueHolds s) (m : MapNo) :
    s.BatchesWhole (s.queue.filter fun e => !s.drains m e) := by
  refine State.batchesWhole_filter (fun e he e' he' htag hne => ?_) fun e _ hin => ?_
  · obtain ⟨tag, hsome⟩ := Option.ne_none_iff_exists'.mp hne
    rw [State.drains, State.drains, hq.oneMap e he e' he' htag hne, State.inOpenBatch, State.inOpenBatch, ← htag]
  · rw [State.drains, hin, Bool.not_true, Bool.and_false]

theorem SupervisorEffect.batchesWhole {cmd : Command} (h : SupervisorEffect s cmd t) (hq : QueueHolds s)
    (hcmd : cmd = .flush ∨ cmd = .mapMode) : s.BatchesWhole t.queue := by
  cases h with
  | keeps | setsMap => exact s.batchesWhole_queue
  | drainsMap | flushes => exact hq.batchesWhole_drain _
  | _ => simp at hcmd

/-- Settles O49: the walk and the drain decide on whole batches. -/
theorem batchesMoveWhole : Obligations.BatchesMoveWhole := by
  intro i s t hq hi hexec
  change s.BatchesWhole t.queue
  obtain ⟨low, high, rfl⟩ | rfl | rfl := hi
  · cases hpower : s.resetHeld with
    | true =>
      rw [exec_of_held hpower (by simp) (by simp)] at hexec
      cases hexec
      exact s.batchesWhole_queue
    | false =>
      by_cases hedge : s.EdgeIn low high
      · rw [exec_blankStartEdge_of_edge hpower hedge] at hexec
        cases hexec
        change s.BatchesWhole (List.filter _ s.queue)
        rw [State.committed_setBlank]
        exact hq.batchesWhole_commit
      · rw [exec_blankStartEdge_of_no_edge hpower hedge] at hexec
        cases hexec
        exact s.batchesWhole_queue
  · cases hexec
    obtain heq | ⟨h, -, -, heq⟩ := s.completeSupervisor_cases .flush flush
    · rw [heq]
      exact s.batchesWhole_queue
    · rw [heq]
      exact flush_effect.batchesWhole hq (.inl rfl)
  · cases hexec
    obtain heq | ⟨h, -, -, heq⟩ := s.completeSupervisor_cases .mapMode mapMode
    · rw [heq]
      exact s.batchesWhole_queue
    · rw [heq]
      exact mapMode_effect.batchesWhole hq (.inr rfl)

/-! ### Countdowns and lookups (R13, R147, R148) -/

/-- Settles O50: the countdown of every cell. -/
theorem countdownLowers : Obligations.CountdownLowers := by
  intro s hpower
  have hexec : exec .coolingExpiry s = .next s.countdown := by
    change execCoolingExpiry s = _
    rw [execCoolingExpiry, hpower, if_neg Bool.false_ne_true]
  refine ⟨_, hexec, rfl, fun n => ⟨fun j hj => ?_, fun hcooling => ?_⟩⟩
  · rw [State.cell_countdown, Cell.cool_of_cooling hj]
  · rw [State.cell_countdown, Cell.cool_of_not_cooling hcooling]

/-- Settles O51: the two branches of a lookup. -/
theorem lookupReturns : Obligations.LookupReturns := by
  intro s m i low period hpower
  refine ⟨fun hlow hperiod => if_neg ?_, fun hshort => if_pos (.inr hshort)⟩
  rintro (hheld | hlow' | hperiod')
  · exact Bool.false_ne_true (hpower.symm.trans hheld)
  · exact Nat.not_lt.mpr hlow hlow'
  · exact Nat.not_lt.mpr hperiod hperiod'

end Sys2Proof.Machine
end

section
/-! Proofs on the engine's choice (R104), the notification lines (R110), the resets (R145, R146) and the permitted writes of the host
port (R99, R109, R141). -/

namespace Sys2Proof.Machine

variable {s : State} {c d : ClientNo} {h : Held} {w : WindowNo} {b : MasterNo} {data : Word}

/-! ### The engine's choice (R104) -/

theorem exec_engineTake_of_free (hpower : s.resetHeld = false) (hfree : s.work = none) :
    exec .engineTake s = .next (s.choice.elim s s.take) := by
  change execEngineTake s = _
  rw [execEngineTake, hpower, hfree, if_neg (by simp)]
  cases s.choice <;> rfl

/-- The window that the search reaches after `j` others. -/
theorem searchOrder_getElem (last : ClientNo) (j : Fin 8) : (searchOrder last)[j.val]? = some (last + 1 + j) := by
  revert last j
  decide

/-- The search comes to a client after as many others as it is steps after the one that follows the last client served. -/
theorem searchOrder_place (last c : ClientNo) : last + 1 + (c - last - 1) = c := by
  revert last c
  decide

theorem searchOrder_distance (last : ClientNo) (j : Fin 8) : last + 1 + j - last - 1 = j := by
  revert last j
  decide

/-- The search finds the waiting client nearest after the last one served. -/
theorem State.nextClient_eq_some (hwaiting : (s.window c.window).slot.isWaiting = true)
    (hnearest : ∀ d : ClientNo, (s.window d.window).slot.isWaiting = true → c - s.lastServed - 1 ≤ d - s.lastServed - 1) :
    s.nextClient = some c := by
  refine List.find?_eq_some_iff_getElem.mpr ⟨hwaiting, (c - s.lastServed - 1).val, (c - s.lastServed - 1).isLt, ?_, ?_⟩
  · have hplace := searchOrder_getElem s.lastServed (c - s.lastServed - 1)
    rw [searchOrder_place] at hplace
    exact (List.getElem?_eq_some_iff.mp hplace).2
  · intro j hj
    have hlt : j < 8 := hj.trans (c - s.lastServed - 1).isLt
    have hplace := (List.getElem?_eq_some_iff.mp (searchOrder_getElem s.lastServed ⟨j, hlt⟩)).2
    rw [hplace, Bool.not_eq_true', ← Bool.not_eq_true]
    intro hd
    have hle := hnearest _ hd
    rw [searchOrder_distance] at hle
    exact Nat.not_lt.mpr (Fin.le_def.mp hle) hj

theorem State.nextClient_eq_none (hnone : ∀ c : ClientNo, (s.window c.window).slot.isWaiting = false) :
    s.nextClient = none :=
  List.find?_eq_none.mpr fun c _ => by rw [hnone c]; exact Bool.false_ne_true

theorem State.choice_of_ws (hws : (s.window .ws).slot.isWaiting = true) : s.choice = some (.command .ws) := if_pos hws

theorem State.choice_of_turn (hws : (s.window .ws).slot.isWaiting = false) (hbusy : s.teardownBusy = true)
    (hturn : s.sliceTurn = true) : s.choice = some .slice := by
  rw [State.choice, hws, hbusy, hturn]
  rfl

/-- With no slice on its turn, the choice is a client's command, and else a slice. -/
theorem State.choice_of_no_turn (hws : (s.window .ws).slot.isWaiting = false)
    (hturn : ¬ (s.teardownBusy = true ∧ s.sliceTurn = true)) :
    s.choice = s.nextClient.elim (if s.teardownBusy then some .slice else none) fun c => some (.command c.window) := by
  rw [State.choice, hws, if_neg Bool.false_ne_true, if_neg (by simpa using hturn)]
  cases s.nextClient <;> rfl

theorem State.take_ws (hslot : (s.window .ws).slot = .waiting h) :
    s.take (.command .ws) =
      { s.setWindow .ws { s.window .ws with slot := .running h } with work := some (.command .ws), sliceTurn := false } := by
  rw [State.take, dif_neg (by decide), State.takeCommand, hslot]
  rfl

theorem State.take_client (hslot : (s.window c.window).slot = .waiting h) :
    s.take (.command c.window) =
      { s.setWindow c.window { s.window c.window with slot := .running h } with
        work := some (.command c.window)
        sliceTurn := true
        lastServed := c } := by
  rw [State.take, dif_pos (show (ClientNo.window c).val < 8 from c.isLt), State.takeCommand, hslot]
  rfl

/-- Settles O17: the choice in its four steps, and what taking each piece of work does. -/
theorem engineTakesInOrder : Obligations.EngineTakesInOrder := by
  intro s hpower hfree
  refine ⟨_, exec_engineTake_of_free hpower hfree, fun h hslot => ?_, fun hws => ⟨fun ⟨hbusy, hturn⟩ => ?_, fun hturn =>
    ⟨fun c h hslot hnearest => ?_, fun hnone => ⟨fun hbusy => ?_, fun hbusy => ?_⟩⟩⟩⟩
  · rw [State.choice_of_ws (by rw [hslot]; rfl)]
    exact State.take_ws hslot
  · rw [State.choice_of_turn hws hbusy hturn]
    rfl
  · rw [State.choice_of_no_turn hws hturn, State.nextClient_eq_some (by rw [hslot]; rfl) hnearest]
    exact State.take_client hslot
  · have hchoice : s.choice = some .slice := by
      rw [State.choice_of_no_turn hws hturn, State.nextClient_eq_none hnone, hbusy]
      rfl
    rw [hchoice]
    rfl
  · have hchoice : s.choice = none := by
      rw [State.choice_of_no_turn hws hturn, State.nextClient_eq_none hnone, hbusy]
      rfl
    rw [hchoice]
    rfl

/-! ### Notification lines (R110) -/

theorem BitVec.ne_zero_iff {size : Nat} {x : BitVec size} : x ≠ 0 ↔ ∃ j < size, x.getLsbD j = true := by
  constructor
  · intro hne
    by_contra hnone
    push Not at hnone
    exact hne (BitVec.eq_of_getLsbD_eq fun j hj => by simpa using hnone j hj)
  · rintro ⟨j, -, hj⟩ rfl
    simp at hj

/-- Settles O12: an event that is pending and enabled is a bit of both sets. -/
theorem notificationLine : Obligations.NotificationLine := by
  intro s w
  rw [State.notify, Window.asserted, Bool.and_eq_true, Bool.not_eq_true', bne_iff_ne, BitVec.ne_zero_iff]
  simp only [BitVec.getLsbD_and, Bool.and_eq_true]

/-! ### Resets (R145, R146) -/

/-- Settles O16: the write of the code of PART_RESET by the master of WS is acted on at once. -/
theorem partResetState : Obligations.PartResetState := by
  intro s b hpower hb
  have hpermit : s.permitted .ws b = true := by rw [State.permitted_ws, hb, beq_self_eq_true]
  have hwrite : s.commandWrite .ws 0x1F = s.partReset := by rw [State.commandWrite, if_pos ⟨rfl, by decide⟩]
  refine ⟨s.partReset, ?_, rfl, fun n => cell_partReset s n⟩
  rw [exec_of_accessOf rfl, State.access_of_permitted hpower hpermit, ← hwrite]
  rfl

theorem map_powerOn (supm : MasterNo) (m : MapNo) : (State.powerOn supm).map m = .reset := Vector.getElem_replicate _

/-- Settles O53: the record of each table, and the fields of each block. -/
theorem powerOnState : Obligations.PowerOnState := fun supm =>
  ⟨cell_powerOn supm, map_powerOn supm, holding_powerOn supm, session_powerOn supm, window_powerOn supm, rfl, rfl, rfl, rfl,
    rfl, rfl, rfl, rfl, rfl, rfl, rfl, rfl, rfl, rfl⟩

/-! ### Permitted writes (R99, R109, R141) -/

/-- A permitted write to a named word (R99). -/
theorem exec_of_permitted_write {i : Instr} {o : Offset} {r : Reg} (hpower : s.resetHeld = false)
    (haccess : accessOf i = some (w, b, o, .write data)) (hpermitted : ¬ s.IsStranger w b) (hreg : regAt w o = some r) :
    exec i s = .next (s.writeReg w data r) := by
  rw [exec_of_accessOf haccess, State.access_of_permitted hpower (State.permitted_of_not_stranger hpermitted),
    State.permittedAccess, hreg]

/-- A permitted write to an offset that carries no word (R154). -/
theorem exec_of_permitted_write_nowhere {i : Instr} {o : Offset} (hpower : s.resetHeld = false)
    (haccess : accessOf i = some (w, b, o, .write data)) (hpermitted : ¬ s.IsStranger w b) (hreg : regAt w o = none) :
    exec i s = .next s := by
  rw [exec_of_accessOf haccess, State.access_of_permitted hpower (State.permitted_of_not_stranger hpermitted),
    State.permittedAccess, hreg]

/-- Settles O54: the bits of the two words. -/
theorem eventWrites : Obligations.EventWrites := by
  intro s w b data hpower hpermitted
  refine ⟨⟨_, exec_of_permitted_write hpower rfl hpermitted (r := .evPend) rfl, ?_, fun j hj => ?_⟩,
    ⟨_, exec_of_permitted_write hpower rfl hpermitted (r := .evEn) rfl, ?_, fun j hj => ?_⟩⟩
  · rw [State.writeReg, State.window_setWindow_self]
    rfl
  · rw [State.writeReg, State.window_setWindow_self, Window.clearEvents]
    simp [hj]
  · rw [State.writeReg, State.window_setWindow_self]
    rfl
  · rw [State.writeReg, State.window_setWindow_self, Window.enableEvents]
    simp [hj]

theorem inspTable_number (x : InspTable) : inspTable x.number = some x := by cases x <;> rfl

theorem InspTable.size_le (x : InspTable) : x.size ≤ 1024 := by cases x <;> decide

theorem InspTable.position_val (x : InspTable) (p : Nat) : (x.position p).val = if p < x.size then p else 0 := by
  unfold InspTable.position
  have hsize := x.size_le
  split
  next hp => rw [if_pos hp.2]
  next hp => rw [if_neg fun hlt => hp ⟨hlt.trans_le hsize, hlt⟩]; rfl

/-- Settles O56: the cursor after a write to INSP_SEL. -/
theorem inspSelSelects : Obligations.InspSelSelects := by
  intro s b data hpower hb
  have hpermitted : ¬ s.IsStranger .ws b := State.isStranger_ws_iff.not.mpr (not_not.mpr hb.symm)
  refine ⟨_, exec_of_permitted_write hpower rfl hpermitted (r := .inspSel) rfl, rfl, fun x hx => ?_, fun hx => ?_⟩
  · have hselect : s.cursor.select data = ⟨x, x.position (bits 25 16 data), .first⟩ := by
      rw [Cursor.select, hx, inspTable_number]
    rw [State.writeReg]
    dsimp only
    rw [hselect]
    exact ⟨rfl, rfl, x.position_val _⟩
  · rw [State.writeReg]
    dsimp only
    rw [Cursor.select, hx]
    rfl

/-- The words beyond the argument words that no row of its own writes are read-only (R99). -/
theorem State.writeReg_of_readOnly {r : Reg} (s : State) (w : WindowNo) (data : Word)
    (hr : r ∈ [Reg.res0, .res1, .status, .inspData, .teardown, .queueLevel]) : s.writeReg w data r = s := by
  simp only [List.mem_cons, List.not_mem_nil, or_false] at hr
  obtain rfl | rfl | rfl | rfl | rfl | rfl := hr <;> rfl

/-- A word past the argument words that has no row of its own is read-only (R99, R154). -/
theorem regAt_readOnly : ∀ (w : WindowNo) (o : Offset), 4 ≤ o.val → o.val ≠ 7 → o.val ≠ 8 →
    (w = .ws → o.val ≠ 9 ∧ o.val ≠ 10) →
    ∀ r ∈ regAt w o, r ∈ [Reg.res0, .res1, .status, .inspData, .teardown, .queueLevel] := by
  decide

/-- The offsets that REGISTER_WRITE leaves to other rows (R99). -/
theorem offsets_of_no_row {addr : HostAddr} (hfree : writeHasOwnRow addr = false) (hw : addr.toNat / 16 = w.val) :
    (addrOffset addr).val ≠ 7 ∧ (addrOffset addr).val ≠ 8 ∧
      (w = .ws → (addrOffset addr).val ≠ 9 ∧ (addrOffset addr).val ≠ 10) := by
  have hle : w.val ≤ 8 := Nat.lt_succ_iff.mp w.isLt
  have hws : w = .ws → w.val = 8 := fun h => congrArg Fin.val h
  simp [writeHasOwnRow, hw, hle] at hfree
  simp only [addrOffset]
  tauto

theorem accessOf_registerWrite {addr : HostAddr} (hw : addr.toNat / 16 = w.val) (b : MasterNo) (data : Word) :
    accessOf (.registerWrite addr b data) = some (w, b, addrOffset addr, .write data) := by
  rw [accessOf, addrWindow_eq_some.mpr hw]
  rfl

/-- Settles O59: the word that the address names, if any. -/
theorem registerWriteTakes : Obligations.RegisterWriteTakes := by
  intro s addr b data hpower hform
  have hfree : writeHasOwnRow addr = false := by simpa [Instr.wellFormed] using hform
  refine ⟨fun w hw hpermitted => ?_, fun hw => ?_⟩
  · have haccess := accessOf_registerWrite hw b data
    refine ⟨fun ho => ?_, fun ho => ?_, fun ho => ?_, fun ho => ?_⟩
    · exact exec_of_permitted_write hpower haccess hpermitted (r := .arg0) (by simp [regAt, addrOffset, ho])
    · exact exec_of_permitted_write hpower haccess hpermitted (r := .arg1) (by simp [regAt, addrOffset, ho])
    · exact exec_of_permitted_write hpower haccess hpermitted (r := .arg2) (by simp [regAt, addrOffset, ho])
    · cases hreg : regAt w (addrOffset addr) with
      | none => exact exec_of_permitted_write_nowhere hpower haccess hpermitted hreg
      | some r =>
        obtain ⟨hpend, hen, hws⟩ := offsets_of_no_row hfree hw
        rw [exec_of_permitted_write hpower haccess hpermitted hreg,
          State.writeReg_of_readOnly s w data (regAt_readOnly w _ ho hpend hen hws r hreg)]
  · change Host.Outcome.next (s.accessAt (addrWindow addr) b (addrOffset addr) (.write data)) = _
    rw [addrWindow, windowAt_eq_none.mpr hw, State.accessAt_none_write]

end Sys2Proof.Machine
end

section
/-! The fields of a word (R155): what a word put together of fields carries in each of them. Proofs on the codes and colour words that
words spell. -/

namespace Sys2Proof.Machine

variable {hi lo hi' lo' v j : Nat} {w x y : Word}

/-! ### Fields of a word (R155) -/

theorem testBit_bits : (bits hi lo w).testBit j = (decide (j < hi + 1 - lo) && w.getLsbD (lo + j)) := by
  rw [bits, Nat.testBit_mod_two_pow, Nat.testBit_div_two_pow, Nat.add_comm j lo, BitVec.testBit_toNat]

theorem getLsbD_field (hhi : hi < 32) :
    (field hi lo v).getLsbD j = (decide (lo ≤ j ∧ j ≤ hi) && v.testBit (j - lo)) := by
  rw [field, BitVec.getLsbD_ofNat, Nat.testBit_mul_two_pow, Nat.testBit_mod_two_pow, Bool.eq_iff_iff]
  simp only [Bool.and_eq_true, decide_eq_true_eq]
  constructor
  · rintro ⟨hj, hlo, hlt, hv⟩
    exact ⟨⟨hlo, by omega⟩, hv⟩
  · rintro ⟨⟨hlo, hle⟩, hv⟩
    exact ⟨by omega, hlo, by omega, hv⟩

theorem bits_or : bits hi lo (x ||| y) = bits hi lo x ||| bits hi lo y := by
  refine Nat.eq_of_testBit_eq fun j => ?_
  rw [Nat.testBit_or, testBit_bits, testBit_bits, testBit_bits, BitVec.getLsbD_or, Bool.and_or_distrib_left]

/-- A field carries its number. -/
theorem bits_field_same (hhi : hi < 32) : bits hi lo (field hi lo v) = v % 2 ^ (hi + 1 - lo) := by
  refine Nat.eq_of_testBit_eq fun j => ?_
  rw [testBit_bits, getLsbD_field hhi, Nat.testBit_mod_two_pow, Nat.add_sub_cancel_left, ← Bool.and_assoc, ← Bool.decide_and]
  exact congrArg (· && v.testBit j) (decide_eq_decide.mpr (by omega))

/-- A field carries 0 in every other. -/
theorem bits_field_disjoint (hhi : hi' < 32) (hdisjoint : hi < lo' ∨ hi' < lo) : bits hi lo (field hi' lo' v) = 0 := by
  refine Nat.eq_of_testBit_eq fun j => ?_
  rw [testBit_bits, getLsbD_field hhi, Nat.zero_testBit, ← Bool.and_assoc, ← Bool.decide_and,
    decide_eq_false (by omega), Bool.false_and]

/-- A word that carries one number from bit 0 on is that number. -/
theorem toNat_field (hhi : hi < 32) (hv : v < 2 ^ (hi + 1)) : (field hi 0 v).toNat = v := by
  have hle : 2 ^ (hi + 1) ≤ 2 ^ 32 := Nat.pow_le_pow_right (by decide) hhi
  rw [field, BitVec.toNat_ofNat, Nat.sub_zero, Nat.pow_zero, Nat.mul_one, Nat.mod_eq_of_lt hv,
    Nat.mod_eq_of_lt (hv.trans_le hle)]

/-! ### Colour words (R155) -/

variable {c d : Colour}

/-- The colour word of a value carries its components. -/
theorem spellsColour_colourWord (c : Colour) : SpellsColour c (colourWord c) := by
  have hred := c.red.isLt
  have hgreen := c.green.isLt
  have hblue := c.blue.isLt
  simp [SpellsColour, colourWord, bits_or, bits_field_same, bits_field_disjoint, Nat.mod_eq_of_lt, *]

/-- A word is determined by the components that it carries. -/
theorem SpellsColour.word_eq (hx : SpellsColour c x) (hy : SpellsColour c y) : x = y := by
  obtain ⟨hblue, hgreen, hred, htop⟩ := hx
  obtain ⟨hblue', hgreen', hred', htop'⟩ := hy
  have hxlt := x.isLt
  have hylt := y.isLt
  refine BitVec.eq_of_toNat_eq ?_
  simp only [bits] at *
  omega

theorem SpellsColour.colourArg_eq (h : SpellsColour c w) : colourArg w = some c := by
  obtain ⟨hblue, hgreen, hred, htop⟩ := h
  rw [colourArg, if_neg (not_not.mpr htop), hblue, hgreen, hred]
  simp

theorem colourArg_eq_some_iff : colourArg w = some c ↔ w = colourWord c := by
  constructor
  · intro h
    refine SpellsColour.word_eq (c := c) ?_ (spellsColour_colourWord c)
    rw [colourArg] at h
    split at h
    next => cases h
    next htop =>
      cases h
      refine ⟨?_, ?_, ?_, not_not.mp htop⟩ <;> exact (Nat.mod_eq_of_lt (Nat.mod_lt _ (by decide))).symm
  · rintro rfl
    exact (spellsColour_colourWord c).colourArg_eq

/-! ### Command codes (R97, R157, R158) -/

theorem clientCommand_code : ∀ cmd : Command, cmd.code.toNat ≤ 0x0B → clientCommand cmd.code = some cmd := by
  intro cmd
  cases cmd <;> decide

theorem supervisorCommand_code : ∀ cmd : Command, 0x10 ≤ cmd.code.toNat → supervisorCommand cmd.code = some cmd := by
  intro cmd
  cases cmd <;> decide

theorem range_of_clientCommand : ∀ code : BitVec 8, (clientCommand code).isSome → 0x01 ≤ code.toNat ∧ code.toNat ≤ 0x0B := by
  decide

theorem range_of_supervisorCommand :
    ∀ code : BitVec 8, (supervisorCommand code).isSome → 0x10 ≤ code.toNat ∧ code.toNat ≤ 0x18 := by
  decide

theorem commandAt_client (c : ClientNo) (code : BitVec 8) : commandAt c.window code = clientCommand code :=
  if_neg (client_window_ne_ws c)

theorem commandAt_ws (code : BitVec 8) : commandAt .ws code = supervisorCommand code := if_pos rfl

/-- Settles O13: the two code tables, each way, and the colour words. -/
theorem wordsSpell : Obligations.WordsSpell := by
  refine ⟨fun c code cmd => ⟨fun h => ?_, ?_⟩, fun code cmd => ⟨fun h => ?_, ?_⟩, fun w v => colourArg_eq_some_iff⟩
  · exact ⟨code_of_commandAt h, range_of_clientCommand code (by rw [← commandAt_client c, h]; rfl)⟩
  · rintro ⟨rfl, -, hle⟩
    rw [commandAt_client, clientCommand_code cmd hle]
  · exact ⟨code_of_commandAt h, range_of_supervisorCommand code (by rw [← commandAt_ws, h]; rfl)⟩
  · rintro ⟨rfl, hle, -⟩
    rw [commandAt_ws, supervisorCommand_code cmd hle]

end Sys2Proof.Machine
end

section
/-! Proofs on the permitted reads: the inspection records (R142, R143, R160) and the words of the windows (R154, R156, R159). -/

namespace Sys2Proof.Machine

variable {s : State} {w : WindowNo} {b : MasterNo}

/-! ### Inspection records (R143, R160) -/

theorem CellState.code_lt (x : CellState) : x.code < 8 := by
  cases x <;> simp [CellState.code]

theorem CellState.ownerField_lt (x : CellState) : x.ownerField < 8 := by
  cases x with
  | owned c => exact c.isLt
  | free | shared _ | fixed | cooling _ => exact Nat.zero_lt_succ 7

/-- The fields of word 0 of a cell's record (R160). -/
theorem bits_cellWord0 (s : State) (n : CellNo) :
    bits 2 0 (s.cellWord0 n) = (s.cell n).state.code ∧ bits 3 3 (s.cellWord0 n) = (s.queued n).toNat ∧
    bits 6 4 (s.cellWord0 n) = (s.cell n).state.ownerField ∧
    bits 18 8 (s.cellWord0 n) = (s.cell n).state.referencesField % 2048 ∧
    bits 21 20 (s.cellWord0 n) = (s.cell n).state.coolingField % 4 ∧ bits 31 22 (s.cellWord0 n) = n.val ∧
    bits 7 7 (s.cellWord0 n) = 0 ∧ bits 19 19 (s.cellWord0 n) = 0 := by
  have hcode := (s.cell n).state.code_lt
  have howner := (s.cell n).state.ownerField_lt
  have hqueued := (s.queued n).toNat_lt
  simp [State.cellWord0, flag, bits_or, bits_field_same, bits_field_disjoint, Nat.mod_eq_of_lt, *]

theorem spellsCell_capture (s : State) (n : CellNo) : SpellsCell s n (s.capture n) := by
  obtain ⟨hcode, hqueued, howner, hrefs, hcooling, hcell, hunnamed⟩ := bits_cellWord0 s n
  refine ⟨hcode.trans ?_, hqueued, fun c hc => ?_, fun hno => ?_, fun r hr hle => ?_, fun hno => ?_, fun j hj hle => ?_,
    fun hno => ?_, hcell, hunnamed, spellsColour_colourWord _, spellsColour_colourWord _⟩
  · cases (s.cell n).state <;> rfl
  · rw [State.capture, howner, hc, CellState.ownerField]
  · rw [State.capture, howner]
    cases hstate : (s.cell n).state with
    | owned c => exact absurd hstate (hno c)
    | free | shared _ | fixed | cooling _ => rfl
  · rw [State.capture, hrefs, hr]
    exact Nat.mod_eq_of_lt (Nat.lt_of_le_of_lt hle (by decide))
  · rw [State.capture, hrefs]
    cases hstate : (s.cell n).state with
    | shared r => exact absurd hstate (hno r)
    | free | owned _ | fixed | cooling _ => rfl
  · rw [State.capture, hcooling, hj]
    exact Nat.mod_eq_of_lt (Nat.lt_of_le_of_lt hle (by decide))
  · rw [State.capture, hcooling]
    cases hstate : (s.cell n).state with
    | cooling j => exact absurd hstate (hno j)
    | free | owned _ | shared _ | fixed => rfl

theorem spellsHolding_holdingWord (x : Option Holding) : SpellsHolding x (holdingWord x) := by
  cases x with
  | none => rfl
  | some r =>
    simp [SpellsHolding, holdingWord, flag, bits_or, bits_field_same, bits_field_disjoint, Nat.mod_eq_of_lt]
    omega

theorem spellsEntry_entryAt (s : State) (p : Nat) : SpellsEntry s p (s.entryAt p) := by
  unfold SpellsEntry State.entryAt
  cases s.queue[p]? with
  | none => rfl
  | some e =>
    cases htag : e.tag with
    | none => simp [State.entryWord, htag, flag, bits_or, bits_field_same, bits_field_disjoint, Nat.mod_eq_of_lt]
    | some x =>
      have hopen : s.batchOpen x = decide ((s.session x.client).openBatch = some x.serial) := beq_eq_decide _ _
      have hflag := (s.batchOpen x).toNat_lt
      simp [State.entryWord, htag, flag, bits_or, bits_field_same, bits_field_disjoint, Nat.mod_eq_of_lt, ← hopen, hflag]
      omega

/-! ### Reads of INSP_DATA (R142) -/

theorem exec_of_permitted_read {i : Instr} {o : Offset} {r : Reg} (hpower : s.resetHeld = false)
    (haccess : accessOf i = some (w, b, o, .read)) (hpermitted : ¬ s.IsStranger w b) (hreg : regAt w o = some r) :
    exec i s = .next (s.readReg w r) := by
  rw [exec_of_accessOf haccess, State.access_of_permitted hpower (State.permitted_of_not_stranger hpermitted),
    State.permittedAccess, hreg]

/-- The position after a read, in a table whose last position is `last` (R142). -/
theorem Cursor.advance_position (x : Cursor) {last : Nat} (hsize : x.table.size = last + 1) (hpos : x.position.val ≤ last) :
    x.advance.position.val = if x.position.val = last then 0 else x.position.val + 1 := by
  rw [Cursor.advance, InspTable.position_val, hsize]
  split <;> split <;> omega

theorem State.inspNext_table (s : State) : s.inspNext.table = s.cursor.table := by
  unfold State.inspNext
  split
  next => split <;> rfl
  next => rfl
  next => rfl

/-- The third word of a cell's record, and each word of another table, ends a record (R142). -/
theorem State.inspNext_of_last
    (hlast : s.cursor.table ≠ .cells ∨ s.cursor.table = .cells ∧ ∃ k, s.cursor.word = .third k) :
    s.inspNext = s.cursor.advance := by
  obtain hother | ⟨htable, k, hword⟩ := hlast
  · unfold State.inspNext
    cases htable : s.cursor.table with
    | cells => exact absurd htable hother
    | holdings | queue => rfl
  · rw [State.inspNext, htable, hword]

theorem State.holdingAt_val (s : State) (k : SlotNo) : s.holdingAt k.val = holdingWord (s.holding k) := dif_pos k.isLt

/-- Settles O57: the word and the cursor, table by table. -/
theorem inspDataReads : Obligations.InspDataReads := by
  intro s b hpower hb
  have hpermitted : ¬ s.IsStranger .ws b := State.isStranger_ws_iff.not.mpr (not_not.mpr hb.symm)
  refine ⟨_, exec_of_permitted_read hpower rfl hpermitted (r := .inspData) rfl, rfl, s.inspNext_table,
    fun htable hword => ?_, fun k htable hword => ?_, fun k htable hword => ?_, fun k htable hpos => ?_, fun htable hpos => ?_⟩
  · have hnext : s.inspNext = { s.cursor with word := .second (s.capture s.cursor.position) } := by
      rw [State.inspNext, htable, hword]
    have hdata : s.inspWord = (s.capture s.cursor.position).word0 := by rw [State.inspWord, htable, hword]
    exact ⟨_, spellsCell_capture s _, congrArg some hdata, (congrArg Cursor.position hnext :), congrArg Cursor.word hnext⟩
  · have hnext : s.inspNext = { s.cursor with word := .third k } := by rw [State.inspNext, htable, hword]
    have hdata : s.inspWord = k.word1 := by rw [State.inspWord, htable, hword]
    exact ⟨congrArg some hdata, (congrArg Cursor.position hnext :), congrArg Cursor.word hnext⟩
  · have hnext := State.inspNext_of_last (.inr ⟨htable, k, hword⟩)
    have hdata : s.inspWord = k.word2 := by rw [State.inspWord, htable, hword]
    refine ⟨congrArg some hdata, congrArg Cursor.word hnext, (congrArg (Fin.val ∘ Cursor.position) hnext).trans ?_⟩
    exact s.cursor.advance_position (by rw [htable]; rfl) (Nat.lt_succ_iff.mp s.cursor.position.isLt)
  · have hnext := State.inspNext_of_last (.inl (by rw [htable]; decide))
    have hdata : s.inspWord = holdingWord (s.holding k) := by rw [State.inspWord, htable, hpos, State.holdingAt_val]
    refine ⟨⟨_, spellsHolding_holdingWord _, congrArg some hdata⟩, congrArg Cursor.word hnext,
      (congrArg (Fin.val ∘ Cursor.position) hnext).trans ?_⟩
    rw [← hpos]
    exact s.cursor.advance_position (by rw [htable]; rfl) (hpos ▸ Nat.lt_succ_iff.mp k.isLt)
  · have hnext := State.inspNext_of_last (.inl (by rw [htable]; decide))
    have hdata : s.inspWord = s.entryAt s.cursor.position.val := by rw [State.inspWord, htable]
    refine ⟨⟨_, spellsEntry_entryAt s _, congrArg some hdata⟩, congrArg Cursor.word hnext,
      (congrArg (Fin.val ∘ Cursor.position) hnext).trans ?_⟩
    exact s.cursor.advance_position (by rw [htable]; rfl) (Nat.lt_succ_iff.mp hpos)

/-! ### The words of the windows (R154, R156, R159) -/

theorem Slot.code_lt (x : Slot) : x.code < 4 := by
  cases x <;> simp [Slot.code]

theorem ResultCode.number_lt (x : ResultCode) : x.number < 32 := by
  cases x <;> decide

/-- The fields of STATUS (R156). -/
theorem bits_status (x : Window) :
    bits 1 0 x.status = x.slot.code ∧ bits 2 2 x.status = x.overrun.toNat ∧ bits 7 3 x.status = 0 ∧
      bits 12 8 x.status = x.posted.result.number ∧ bits 15 13 x.status = 0 ∧
      bits 23 16 x.status = x.posted.command.toNat ∧ bits 31 24 x.status = 0 := by
  have hslot := x.slot.code_lt
  have hoverrun := x.overrun.toNat_lt
  have hresult := x.posted.result.number_lt
  have hcommand := x.posted.command.isLt
  simp [Window.status, flag, bits_or, bits_field_same, bits_field_disjoint, Nat.mod_eq_of_lt, *]

/-- The fields of FAULT (R129, R159). -/
theorem bits_faultWord (s : State) :
    bits 29 12 s.faultWord = 0 ∧ bits 30 30 s.faultWord = s.more.toNat ∧
      (s.fault = none → bits 11 0 s.faultWord = 0 ∧ bits 31 31 s.faultWord = 0) ∧
      ∀ r, s.fault = some r →
        bits 3 0 s.faultWord = r.offset.val ∧ bits 7 4 s.faultWord = r.window.val ∧
          bits 10 8 s.faultWord = r.master.val ∧ bits 11 11 s.faultWord = r.write.toNat ∧ bits 31 31 s.faultWord = 1 := by
  have hmore := s.more.toNat_lt
  cases hfault : s.fault with
  | none => simp [State.faultWord, flag, bits_field_same, bits_field_disjoint, Nat.mod_eq_of_lt, *]
  | some r =>
    have hwrite := r.write.toNat_lt
    have hwindow : r.window.val < 16 := r.window.isLt.trans (by decide)
    simp [State.faultWord, flag, bits_or, bits_field_same, bits_field_disjoint, Nat.mod_eq_of_lt, *]

theorem InspTable.number_lt (x : InspTable) : x.number < 4 := by
  cases x <;> decide

theorem CursorWord.index_lt (x : CursorWord) : x.index < 4 := by
  cases x <;> simp [CursorWord.index]

/-- The fields of INSP_SEL (R141, R159). -/
theorem bits_selWord (x : Cursor) :
    bits 1 0 x.selWord = x.table.number ∧ bits 15 2 x.selWord = 0 ∧ bits 25 16 x.selWord = x.position.val ∧
      bits 27 26 x.selWord = 0 ∧ bits 29 28 x.selWord = x.word.index ∧ bits 31 30 x.selWord = 0 := by
  have htable := x.table.number_lt
  have hword := x.word.index_lt
  simp [Cursor.selWord, bits_or, bits_field_same, bits_field_disjoint, Nat.mod_eq_of_lt, *]

/-- The fields of TEARDOWN (R121, R159). -/
theorem bits_teardownWord (s : State) :
    bits 2 0 s.teardownWord = s.teardownClient.val ∧ bits 30 3 s.teardownWord = 0 ∧
      bits 31 31 s.teardownWord = s.teardownBusy.toNat := by
  have hbusy := s.teardownBusy.toNat_lt
  simp [State.teardownWord, flag, bits_or, bits_field_same, bits_field_disjoint, Nat.mod_eq_of_lt, *]

theorem State.readReg_eq {r : Reg} (s : State) (w : WindowNo) (hr : r ≠ .inspData) :
    s.readReg w r = { s with readData := some (s.readWord w r) } := by
  cases r with
  | inspData => exact absurd rfl hr
  | cmd | arg0 | arg1 | arg2 | res0 | res1 | status | evPend | evEn | fault | inspSel | teardown | queueLevel => rfl

/-- What a permitted read of an offset returns: the word there, and 0 where there is none (R154). -/
def State.wordAt (s : State) (w : WindowNo) (o : Offset) : Word := (regAt w o).elim 0 (s.readWord w)

theorem State.permittedAccess_read {o : Offset} (s : State) (hinsp : ¬ (w = .ws ∧ o.val = 0xB)) :
    s.permittedAccess w o .read = { s with readData := some (s.wordAt w o) } := by
  have hreg : ∀ (w : WindowNo) (o : Offset), ¬ (w = .ws ∧ o.val = 0xB) → regAt w o ≠ some .inspData := by decide
  rw [State.permittedAccess, State.wordAt]
  cases h : regAt w o with
  | none => rfl
  | some r => exact s.readReg_eq w fun hr => hreg w o hinsp (hr ▸ h)

/-- A permitted read of a named word (R154). -/
theorem State.wordAt_of_val {o : Offset} (r : Reg) (ho : o.val = r.offset.val) (hreg : regAt w r.offset = some r) :
    s.wordAt w o = s.readWord w r := by
  rw [State.wordAt, Fin.ext ho, hreg]
  rfl

/-- The offsets that carry no word (R154). -/
theorem regAt_eq_none : ∀ (w : WindowNo) (o : Offset), (w ≠ .ws ∧ 0x9 ≤ o.val) ∨ 0xE ≤ o.val → regAt w o = none := by
  decide

theorem toNat_setWidth_four (x : BitVec 4) : (x.setWidth 32 : Word).toNat = x.toNat := by
  rw [BitVec.toNat_setWidth]
  exact Nat.mod_eq_of_lt (x.isLt.trans (by decide))

/-- Settles O60: the word at each offset. -/
theorem wordsRead : Obligations.WordsRead := by
  intro s k b offset hpower
  refine ⟨fun hk => ?_, fun w hk hpermitted hinsp => ⟨s.wordAt w offset, ?_, ?_⟩⟩
  · change Host.Outcome.next (s.accessAt (windowAt k) b offset .read) = _
    rw [windowAt_eq_none.mpr hk, State.accessAt_none_read, if_neg (by rw [hpower]; decide)]
    rfl
  · rw [exec_of_accessOf (accessOf_deniedAccess hk b offset .read),
      State.access_of_permitted hpower (State.permitted_of_not_stranger hpermitted), s.permittedAccess_read hinsp]
  · refine ⟨fun ho => ?_, fun ho => State.wordAt_of_val .arg0 ho rfl,
      fun ho => State.wordAt_of_val .arg1 ho rfl, fun ho => State.wordAt_of_val .arg2 ho rfl,
      fun ho => State.wordAt_of_val .res0 ho rfl, fun ho => State.wordAt_of_val .res1 ho rfl,
      fun ho => ?_, fun ho => ?_, fun ho => ?_, fun hw ho => ?_, fun hw ho => ?_, fun hw ho => ?_, fun hw ho hlen => ?_,
      fun hw ho => ?_, fun ho => ?_⟩
    · rw [State.wordAt_of_val .cmd ho rfl]
      exact toNat_field (by decide) (s.window w).posted.command.isLt
    · rw [State.wordAt_of_val .status ho rfl]
      exact bits_status (s.window w)
    · rw [State.wordAt_of_val .evPend ho rfl]
      exact toNat_setWidth_four _
    · rw [State.wordAt_of_val .evEn ho rfl]
      exact toNat_setWidth_four _
    · subst hw
      rw [State.wordAt_of_val .fault ho rfl]
      exact bits_faultWord s
    · subst hw
      rw [State.wordAt_of_val .inspSel ho rfl]
      exact bits_selWord s.cursor
    · subst hw
      rw [State.wordAt_of_val .teardown ho rfl]
      exact bits_teardownWord s
    · subst hw
      rw [State.wordAt_of_val .queueLevel ho rfl]
      exact toNat_field (by decide) (Nat.lt_of_le_of_lt hlen (by decide))
    · rw [State.wordAt, regAt_eq_none w offset (.inl ⟨hw, ho⟩)]
      rfl
    · rw [State.wordAt, regAt_eq_none w offset (.inr ho)]
      rfl

end Sys2Proof.Machine
end
